-- ==== Sys2Proof/Word.lean ====
section
/-! DEFINITION. The bit-vector types of the engine: a byte of the message or of the digest string, the 32-bit words
of the host port and of the 256 variant, and the 64-bit storage of one register-file element (10_state.md R30). -/

namespace Sys2Proof

abbrev Byte := BitVec 8
abbrev Word32 := BitVec 32
abbrev Word64 := BitVec 64

end Sys2Proof
end

