-- ==== Sys2Proof/Syntax.lean ====
section
/-! DEFINITION. The names of the spec as data: the commands of the opcode table, the fields of a command word, the
variants, the agents' turns, and the lines of a host program. -/

namespace Sys2Proof

/-- The commands of the opcode map (30_encoding.md R116), one constructor per row of spec/opcode_table.json.
A command carries no immediate, no address and no register number (R115). -/
inductive Instr where
  | nop
  | hash256
  | hash384
  | hash512
  | abort
  | clear
  deriving DecidableEq, Repr

/-- The fields of a command word (30_encoding.md R111): `OP` 7:0, `VAR` 9:8, `RSV` 31:10. -/
structure CommandFields where
  rsv : BitVec 22
  var : BitVec 2
  op : BitVec 8
  deriving DecidableEq, Repr

/-- Why a word is `RESERVED` (30_encoding.md R112 to R114). The machine treats all four alike. -/
inductive Reserved where
  | rsvNotZero      -- `RSV` holds a 1
  | opReserved      -- `OP` is 0x04 to 0xFF
  | variantReserved -- HASH with `VAR` = 3
  | varNotZero      -- a command other than HASH with `VAR` not 0
  deriving DecidableEq, Repr

/-- The algorithm variants (00_scope.md R2). -/
inductive Variant where
  | v256
  | v384
  | v512
  deriving DecidableEq, Repr

/-- The 32-bit and the 64-bit family of word operators (46_variant_config.md R250). -/
inductive Family where
  | f32
  | f64
  deriving DecidableEq, Repr

/-- Which agent acts next (20_memory.md R95): the host, the engine, or the platform's reset input
(70_reset_and_hazards.md R300). -/
inductive Turn where
  | host
  | engine
  | reset
  deriving DecidableEq, Repr, Inhabited

/-- What a host access does (20_memory.md R85). -/
inductive AccessKind where
  | read
  | write (data : Word32)
  deriving DecidableEq, Repr

/-- One host access: a byte offset from `BASE`, a size in bytes and a kind. The port performs only aligned 4-byte
accesses in range (20_memory.md R86, R87). -/
structure Access where
  kind : AccessKind
  off : Nat
  size : Nat
  deriving DecidableEq, Repr

/-- An operand of a host line (30_encoding.md R118): a number, a name that an earlier `rd32` has bound, or a sum of operands
(95_test_vectors.md P3 writes `CAP+1`). `mod` and `div` are what the expansion of `setlen` writes (R119). -/
inductive Operand where
  | num (n : Nat)
  | name (x : String)
  | sum (a b : Operand)
  | mod (a : Operand) (n : Nat)
  | div (a : Operand) (n : Nat)
  deriving DecidableEq, Repr

/-- One line of a host program (30_encoding.md R118). `access` is an access the syntax of R118 cannot write, of any
size: the port answers it with a bus error unless its size is 4 (20_memory.md R86). -/
inductive HostLine where
  | wr32 (off data : Operand)
  | rd32 (off : Operand) (name : String)
  | poll (off mask value : Operand)
  | pollnz (off mask : Operand)
  | access (a : Access)
  deriving DecidableEq, Repr

/-- What a host line does once its operands have their values. -/
inductive HostAction where
  | wr32 (off : Nat) (data : Word32)
  | rd32 (off : Nat) (name : String)
  | poll (off : Nat) (mask value : Word32)
  | pollnz (off : Nat) (mask : Word32)
  | access (a : Access)
  deriving DecidableEq, Repr

/-- The pseudo-instructions of a host program (30_encoding.md R119). -/
inductive Pseudo where
  | cmd (i : Instr)
  | setlen (n : Operand)
  | wrmsg (bytes : List Byte)
  | waitdone
  deriving DecidableEq, Repr

/-- What the port answers to one access: the error bit of 20_memory.md R90, and a read's data. -/
structure Response where
  busError : Bool
  data : Option Word32
  deriving DecidableEq, Repr

/-- The locations of the register window (10_state.md R54, 20_memory.md R82). `msg a` is the word at message bytes
`a` to `a + 3`. -/
inductive Location where
  | id
  | cmd
  | status
  | irqEn
  | msgLenLo
  | msgLenHi
  | cap
  | blockCnt
  | blockIdx
  | round
  | rejCause
  | rejAddr
  | rejData
  | hLo (i : Fin 8)
  | hHi (i : Fin 8)
  | digestHex (k : Fin 32)
  | msg (a : Nat)
  | reserved
  deriving DecidableEq, Repr

end Sys2Proof
end

