-- ==== Sys2Proof/Config.lean ====
section
/-! DEFINITION. What an implementation fixes and the spec leaves open: the buffer size, and the free values. The
opaque constants have no body: nothing is known of them but their type. -/

namespace Sys2Proof

/-- The implementation's choice of buffer size, counted in words above the least size (log 4). -/
opaque Config.extraWords : Fin (536870848 + 1)

/-- `MSG_CAP` (00_scope.md R9): a multiple of 4 with 256 ≤ `MSG_CAP` ≤ 2^31, and any such number. -/
def Config.MSG_CAP : Nat := 4 * Config.extraWords.val + 256

/-- The value of a buffer byte that no host write has stored since reset: any byte value, one draw per byte at each
reset (20_memory.md R84, 93_implementation_defined.md I4; log 5). Arguments: the instance's `BASE`, so that nothing relates
the bytes of two instances (log 9); the draw; the byte's address. -/
opaque Config.freeByte : Nat → Nat → Nat → Byte

/-- Which agent acts when no coming turn is given (20_memory.md R95, 93_implementation_defined.md I5; log 1).
Arguments: the instance's `BASE`; how many free turns were drawn before. -/
opaque Config.freeTurn : Nat → Nat → Turn

/-- How many free turns may pass before the engine's next one: any number, always finite (46_variant_config.md R258; log 12).
Arguments: the instance's `BASE`; how many free turns were drawn before. -/
opaque Config.freeWait : Nat → Nat → Nat

/-- The value of a name of a host program that no `rd32` has bound (log 21). Arguments: the instance's `BASE`; the name. -/
opaque Config.freeName : Nat → String → Word32

end Sys2Proof
end

