-- ==== Sys2Proof/Machine/State.lean ====
section
/-! DEFINITION. The engine's state as plain data, its reset value, and the reasons a step can stop.
Field names are the spec's. Fields of a fixed set of values are inductive types (log 17). -/

namespace Sys2Proof.Machine

/-- `PHASE` (10_state.md R40). The encoding 7 is never held. -/
inductive Phase where
  | idle
  | pre
  | sched
  | comp
  | asm
  | done
  | error
  deriving DecidableEq, Repr

/-- `STATUS.ERRCODE` (10_state.md R46, 60_exceptions.md R271). The encodings 4 to 7 are never written, and no step of
this model writes `internalInvariantViolation` (60_exceptions.md R274). -/
inductive ErrCode where
  | none
  | invalidInput
  | inputTooLarge
  | internalInvariantViolation
  deriving DecidableEq, Repr

/-- The bytes the host has stored in the message buffer since reset (20_memory.md R81), as (address, byte) pairs with
strictly rising addresses. An address that is not listed has no value of its own: no host write has stored it
(R84; log 5). -/
abbrev Memory := List Host.Cell

/-- The whole state of one engine instance, and the model's record of its inputs and outputs. -/
structure State where
  /-- The parameter `BASE` of this instance, which is its identifier (00_scope.md R9, 60_exceptions.md R292). No step writes
  it (log 9). -/
  BASE : Nat
  /-- Accumulator (10_state.md R31). -/
  H : Vector Word64 8
  /-- Working state (R32). -/
  S : Vector Word64 8
  /-- Schedule (R33). -/
  W : Vector Word64 80
  /-- Block (R34). -/
  M : Vector Word64 16
  /-- Phase (R40). -/
  PHASE : Phase
  /-- Index of the next block to schedule (R41). -/
  BLK : Word32
  /-- Block count (R42). -/
  NBLK : Word32
  /-- Round counter (R43). -/
  J : Word32
  /-- `STATUS.VAR` (R44). -/
  VAR : Variant
  /-- `STATUS.DONE` (R45). -/
  DONE : Bool
  /-- `STATUS.ERR` (R46). -/
  ERR : Bool
  /-- `STATUS.ERRCODE` (R46). -/
  ERRCODE : ErrCode
  /-- `STATUS.REJ` and the capture of the first rejection (R47). -/
  REJ : Bool
  REJ_CAUSE : Word32
  REJ_ADDR : Word32
  REJ_DATA : Word32
  /-- Interrupt enables: bit 0 `DONE_IE`, bit 1 `ERR_IE`, bit 2 `REJ_IE` (R48). -/
  IRQ_EN : BitVec 3
  /-- Message length in bytes (R49). -/
  MSG_LEN : BitVec 64
  /-- Message buffer (R50). -/
  MSG : Memory
  /-- `DIGEST_HEX` (R51). -/
  DIGEST : Vector Byte 128
  /-- The model's own: which draw of the unwritten buffer bytes is in force (log 5). -/
  draw : Nat
  /-- The model's own: the host's lines not yet performed, in issue order (20_memory.md R95; log 2). -/
  host : List HostLine
  /-- The model's own: the values `rd32 OFF -> NAME` has bound, latest first (30_encoding.md R118; log 2). -/
  names : List (String × Word32)
  /-- The model's own: what the port answered to the latest access (20_memory.md R85, R90; log 3). -/
  response : Option Response
  /-- The model's own: the interleaving's coming turns (20_memory.md R95; log 1). -/
  turns : List Turn
  /-- The model's own: how many free turns have been drawn (log 1). -/
  turnDraws : Nat
  /-- The model's own: how many free turns may still pass before the engine's next one (46_variant_config.md R258; log 12). -/
  wait : Nat
  deriving DecidableEq, Repr

/-- The machine right after reset (70_reset_and_hazards.md R301). The model's own fields and `BASE` are
empty or 0 (log 13). -/
def State.reset : State where
  BASE := 0
  H := Vector.replicate 8 0
  S := Vector.replicate 8 0
  W := Vector.replicate 80 0
  M := Vector.replicate 16 0
  PHASE := .idle
  BLK := 0
  NBLK := 0
  J := 0
  VAR := .v256
  DONE := false
  ERR := false
  ERRCODE := .none
  REJ := false
  REJ_CAUSE := 0
  REJ_ADDR := 0
  REJ_DATA := 0
  IRQ_EN := 0
  MSG_LEN := 0
  MSG := []
  DIGEST := Vector.replicate 128 0
  draw := 0
  host := []
  names := []
  response := none
  turns := []
  turnDraws := 0
  wait := 0

/-- Why the machine stops with a fault. -/
inductive Fault where
  /-- Raised by the engine's turn in phase `COMP` with `J` above the round count, a position the spec says is never
  held (10_state.md R43, R66) and gives no step (46_variant_config.md R256). It is the internal defect that
  93_implementation_defined.md I9 has a model treat as a fault. Safe: no state that a run reaches raises it (log 7). -/
  | internalInvariantViolation
  deriving DecidableEq, Repr

/-- Why the model refuses. -/
inductive Refusal where
  /-- Raised by an arm of `exec` whose instruction has no meaning yet; no arm does. Safe: the machine stops. -/
  | notModelled (mnemonic : String)
  deriving DecidableEq, Repr

/-- What a step or a command answers. -/
abbrev Result := Host.Outcome State Fault Refusal

end Sys2Proof.Machine
end

