-- ==== Sys2Proof/Machine/Constants.lean ====
section
/-! DEFINITION. The variant configuration (46_variant_config.md R250 to R254): the per-variant parameters and the
constant tables, which are not state (10_state.md R35), and the constants of the register map. -/

namespace Sys2Proof

/-- The word width of a family (46_variant_config.md R250). -/
abbrev Family.w : Family → Nat
  | .f32 => 32
  | .f64 => 64

/-- The family of a variant (46_variant_config.md R250). -/
abbrev Variant.family : Variant → Family
  | .v256 => .f32
  | .v384 => .f64
  | .v512 => .f64

/-- `w(v)`, the word width in bits. -/
abbrev Variant.w (v : Variant) : Nat := v.family.w

/-- `B(v)`, the block size in bits. -/
def Variant.B : Variant → Nat
  | .v256 => 512
  | .v384 => 1024
  | .v512 => 1024

/-- `Lf(v)`, the width of the length field in bits. -/
def Variant.Lf : Variant → Nat
  | .v256 => 64
  | .v384 => 128
  | .v512 => 128

/-- `R(v)`, the schedule length and round count. -/
def Variant.R : Variant → Nat
  | .v256 => 64
  | .v384 => 80
  | .v512 => 80

/-- `OW(v)`, the number of output words. -/
def Variant.OW : Variant → Nat
  | .v256 => 8
  | .v384 => 6
  | .v512 => 8

/-- The code of a variant in `STATUS.VAR` and in a command word (10_state.md R44, 30_encoding.md R113). -/
def Variant.code : Variant → BitVec 2
  | .v256 => 0
  | .v384 => 1
  | .v512 => 2

namespace Machine

/-- `K_256[0..63]` (46_variant_config.md R251). -/
def k256 : List Word32 :=
  [0x428a_2f98, 0x7137_4491, 0xb5c0_fbcf, 0xe9b5_dba5, 0x3956_c25b, 0x59f1_11f1, 0x923f_82a4, 0xab1c_5ed5,
   0xd807_aa98, 0x1283_5b01, 0x2431_85be, 0x550c_7dc3, 0x72be_5d74, 0x80de_b1fe, 0x9bdc_06a7, 0xc19b_f174] ++
  [0xe49b_69c1, 0xefbe_4786, 0x0fc1_9dc6, 0x240c_a1cc, 0x2de9_2c6f, 0x4a74_84aa, 0x5cb0_a9dc, 0x76f9_88da,
   0x983e_5152, 0xa831_c66d, 0xb003_27c8, 0xbf59_7fc7, 0xc6e0_0bf3, 0xd5a7_9147, 0x06ca_6351, 0x1429_2967] ++
  [0x27b7_0a85, 0x2e1b_2138, 0x4d2c_6dfc, 0x5338_0d13, 0x650a_7354, 0x766a_0abb, 0x81c2_c92e, 0x9272_2c85,
   0xa2bf_e8a1, 0xa81a_664b, 0xc24b_8b70, 0xc76c_51a3, 0xd192_e819, 0xd699_0624, 0xf40e_3585, 0x106a_a070] ++
  [0x19a4_c116, 0x1e37_6c08, 0x2748_774c, 0x34b0_bcb5, 0x391c_0cb3, 0x4ed8_aa4a, 0x5b9c_ca4f, 0x682e_6ff3,
   0x748f_82ee, 0x78a5_636f, 0x84c8_7814, 0x8cc7_0208, 0x90be_fffa, 0xa450_6ceb, 0xbef9_a3f7, 0xc671_78f2]

/-- `K_512[0..79]` (46_variant_config.md R251, 44_compressor.md R219). -/
def k512 : List Word64 :=
  [0x428a_2f98_d728_ae22, 0x7137_4491_23ef_65cd, 0xb5c0_fbcf_ec4d_3b2f, 0xe9b5_dba5_8189_dbbc,
   0x3956_c25b_f348_b538, 0x59f1_11f1_b605_d019, 0x923f_82a4_af19_4f9b, 0xab1c_5ed5_da6d_8118,
   0xd807_aa98_a303_0242, 0x1283_5b01_4570_6fbe, 0x2431_85be_4ee4_b28c, 0x550c_7dc3_d5ff_b4e2,
   0x72be_5d74_f27b_896f, 0x80de_b1fe_3b16_96b1, 0x9bdc_06a7_25c7_1235, 0xc19b_f174_cf69_2694] ++
  [0xe49b_69c1_9ef1_4ad2, 0xefbe_4786_384f_25e3, 0x0fc1_9dc6_8b8c_d5b5, 0x240c_a1cc_77ac_9c65,
   0x2de9_2c6f_592b_0275, 0x4a74_84aa_6ea6_e483, 0x5cb0_a9dc_bd41_fbd4, 0x76f9_88da_8311_53b5,
   0x983e_5152_ee66_dfab, 0xa831_c66d_2db4_3210, 0xb003_27c8_98fb_213f, 0xbf59_7fc7_beef_0ee4,
   0xc6e0_0bf3_3da8_8fc2, 0xd5a7_9147_930a_a725, 0x06ca_6351_e003_826f, 0x1429_2967_0a0e_6e70] ++
  [0x27b7_0a85_46d2_2ffc, 0x2e1b_2138_5c26_c926, 0x4d2c_6dfc_5ac4_2aed, 0x5338_0d13_9d95_b3df,
   0x650a_7354_8baf_63de, 0x766a_0abb_3c77_b2a8, 0x81c2_c92e_47ed_aee6, 0x9272_2c85_1482_353b,
   0xa2bf_e8a1_4cf1_0364, 0xa81a_664b_bc42_3001, 0xc24b_8b70_d0f8_9791, 0xc76c_51a3_0654_be30,
   0xd192_e819_d6ef_5218, 0xd699_0624_5565_a910, 0xf40e_3585_5771_202a, 0x106a_a070_32bb_d1b8] ++
  [0x19a4_c116_b8d2_d0c8, 0x1e37_6c08_5141_ab53, 0x2748_774c_df8e_eb99, 0x34b0_bcb5_e19b_48a8,
   0x391c_0cb3_c5c9_5a63, 0x4ed8_aa4a_e341_8acb, 0x5b9c_ca4f_7763_e373, 0x682e_6ff3_d6b2_b8a3,
   0x748f_82ee_5def_b2fc, 0x78a5_636f_4317_2f60, 0x84c8_7814_a1f0_ab72, 0x8cc7_0208_1a64_39ec,
   0x90be_fffa_2363_1e28, 0xa450_6ceb_de82_bde9, 0xbef9_a3f7_b2c6_7915, 0xc671_78f2_e372_532b] ++
  [0xca27_3ece_ea26_619c, 0xd186_b8c7_21c0_c207, 0xeada_7dd6_cde0_eb1e, 0xf57d_4f7f_ee6e_d178,
   0x06f0_67aa_7217_6fba, 0x0a63_7dc5_a2c8_98a6, 0x113f_9804_bef9_0dae, 0x1b71_0b35_131c_471b,
   0x28db_77f5_2304_7d84, 0x32ca_ab7b_40c7_2493, 0x3c9e_be0a_15c9_bebc, 0x431d_67c4_9c10_0d4c,
   0x4cc5_d4be_cb3e_42b6, 0x597f_299c_fc65_7e2a, 0x5fcb_6fab_3ad6_faec, 0x6c44_198c_4a47_5817]

/-- `IV_256` (46_variant_config.md R252), each word zero-extended to its 64 bits of storage (R30). -/
def iv256 : Vector Word64 8 :=
  #v[0x6a09_e667, 0xbb67_ae85, 0x3c6e_f372, 0xa54f_f53a,
   0x510e_527f, 0x9b05_688c, 0x1f83_d9ab, 0x5be0_cd19]

/-- `IV_384` (46_variant_config.md R253), each word zero-extended to its 64 bits of storage (R30). -/
def iv384 : Vector Word64 8 :=
  #v[0xcbbb_9d5d_c105_9ed8, 0x629a_292a_367c_d507, 0x9159_015a_3070_dd17, 0x152f_ecd8_f70e_5939,
   0x6733_2667_ffc0_0b31, 0x8eb4_4a87_6858_1511, 0xdb0c_2e0d_64f9_8fa7, 0x47b5_481d_befa_4fa4]

/-- `IV_512` (46_variant_config.md R254), each word zero-extended to its 64 bits of storage (R30). -/
def iv512 : Vector Word64 8 :=
  #v[0x6a09_e667_f3bc_c908, 0xbb67_ae85_84ca_a73b, 0x3c6e_f372_fe94_f82b, 0xa54f_f53a_5f1d_36f1,
   0x510e_527f_ade6_82d1, 0x9b05_688c_2b3e_6c1f, 0x1f83_d9ab_fb41_bd6b, 0x5be0_cd19_137e_2179]

/-- `K_v[j]` (46_variant_config.md R251): `K_256` for the 256 variant, `K_512` for the other two; 0 past the table
(log 19). -/
def roundConstant (v : Variant) (j : Nat) : BitVec v.w :=
  match v with
  | .v256 => k256.getD j 0
  | .v384 => k512.getD j 0
  | .v512 => k512.getD j 0

/-- `IV_v` (46_variant_config.md R252 to R254). -/
def initialValue : Variant → Vector Word64 8
  | .v256 => iv256
  | .v384 => iv384
  | .v512 => iv512

/-- `ID` (10_state.md R52). -/
def idConstant : Word32 := 0x5348_4132

/-- `CAP` (10_state.md R53). -/
def capConstant : Word32 := BitVec.ofNat 32 Config.MSG_CAP

/-- The offset of `CMD` (10_state.md R54). -/
def cmdOffset : Nat := 0x004

/-- The offset of the `MSG` window (10_state.md R54). -/
def msgBase : Nat := 0x1000

end Machine

end Sys2Proof
end

