-- ==== Sys2Proof/Machine/Flags.lean ====
section
/-! DEFINITION. The flags and the values computed from them: the busy bit, the `STATUS` word, the interrupt output and
the legality of a command in a phase. No arithmetic step writes a flag (10_state.md R67). -/

namespace Sys2Proof.Machine

/-- The encoding of `PHASE` (10_state.md R40). -/
def Phase.code : Phase → BitVec 3
  | .idle => 0
  | .pre => 1
  | .sched => 2
  | .comp => 3
  | .asm => 4
  | .done => 5
  | .error => 6

/-- The busy phases (10_state.md R40, 00_scope.md R19). -/
def Phase.busy : Phase → Bool
  | .pre | .sched | .comp | .asm => true
  | .idle | .done | .error => false

/-- The encoding of `ERRCODE` (10_state.md R46, 60_exceptions.md R271). -/
def ErrCode.code : ErrCode → BitVec 3
  | .none => 0
  | .invalidInput => 1
  | .inputTooLarge => 2
  | .internalInvariantViolation => 3

/-- `STATUS.BUSY`, a function of `PHASE` (10_state.md R55). -/
def State.busy (s : State) : Bool := s.PHASE.busy

/-- The word a read of `STATUS` returns, from bit 31 down (10_state.md R55). -/
def statusWord (s : State) : Word32 :=
  (0 : BitVec 18) ++ s.VAR.code ++ (0 : BitVec 1) ++ s.ERRCODE.code ++ (0 : BitVec 1) ++
    BitVec.ofBool s.REJ ++ BitVec.ofBool s.ERR ++ BitVec.ofBool s.DONE ++ BitVec.ofBool s.busy ++ s.PHASE.code

/-- `IRQ_EN.DONE_IE`, bit 0 (10_state.md R56). -/
def State.doneIe (s : State) : Bool := s.IRQ_EN.getLsbD 0

/-- `IRQ_EN.ERR_IE`, bit 1 (10_state.md R56). -/
def State.errIe (s : State) : Bool := s.IRQ_EN.getLsbD 1

/-- `IRQ_EN.REJ_IE`, bit 2 (10_state.md R56). -/
def State.rejIe (s : State) : Bool := s.IRQ_EN.getLsbD 2

/-- The interrupt output, a level (60_exceptions.md R280). -/
def irq (s : State) : Bool := (s.DONE && s.doneIe) || (s.ERR && s.errIe) || (s.REJ && s.rejIe)

/-- The table `legal(k, PHASE)` (40_commands.md R140). -/
def legal (i : Instr) (p : Phase) : Bool :=
  match i with
  | .nop => true
  | .hash256 => !p.busy
  | .hash384 => !p.busy
  | .hash512 => !p.busy
  | .abort => true
  | .clear => !p.busy

end Sys2Proof.Machine
end

