-- ==== Sys2Proof/Machine/Operands.lean ====
section
/-! DEFINITION. Byte order and operand forms: big-endian byte strings (00_scope.md R16), the little-endian lanes of
the host port (20_memory.md R88), and the two halves of a 64-bit quantity (10_state.md R57, R60). -/

namespace Sys2Proof.Machine

/-- `BE_k(b_0, …)` (00_scope.md R16): the first byte is the most significant. -/
def beNat (bs : List Byte) : Nat := bs.foldl (fun acc b => acc * 256 + b.toNat) 0

/-- Byte `q` of `bytesBE_k(x)` (00_scope.md R16), counting from the most significant. -/
def beByte (k x q : Nat) : Byte := BitVec.ofNat 8 (x / 2 ^ (8 * (k - 1 - q)))

/-- Four bytes as one 32-bit access carries them, `b0` in bits 7:0 (20_memory.md R88). -/
def lanes (b0 b1 b2 b3 : Byte) : Word32 := b3 ++ b2 ++ b1 ++ b0

/-- Bits `8k+7:8k` of an access's data (20_memory.md R88). -/
def lane (data : Word32) (k : Nat) : Byte := data.extractLsb' (8 * k) 8

/-- Bits 31:0 of a 64-bit quantity. -/
def loHalf (x : Word64) : Word32 := x.extractLsb' 0 32

/-- Bits 63:32 of a 64-bit quantity. -/
def hiHalf (x : Word64) : Word32 := x.extractLsb' 32 32

/-- `x` with its low half replaced (10_state.md R57). -/
def setLo (x : Word64) (d : Word32) : Word64 := hiHalf x ++ d

/-- `x` with its high half replaced (10_state.md R57). -/
def setHi (x : Word64) (d : Word32) : Word64 := d ++ loHalf x

end Sys2Proof.Machine
end

