-- ==== Sys2Proof/Machine/Ops.lean ====
section
/-! DEFINITION. The shared operations: reading and writing the message buffer, raising an error and leaving it,
refusing a host action, clearing a computation, the reset event, and the choice of the next turn. -/

namespace Sys2Proof.Machine

/-- The canonical form of a memory: addresses strictly rising. An unlisted address has no value of its own, so no
entry can equal what it reads as (log 5). -/
def Memory.wf : Memory → Bool
  | [] => true
  | [_] => true
  | (a, _) :: (b, y) :: m => decide (a < b) && Memory.wf ((b, y) :: m)

/-- The byte a host write has stored at `a` since reset, if any. -/
def Memory.lookup (a : Nat) : Memory → Option Byte
  | [] => none
  | (b, y) :: m => if a = b then some y else Memory.lookup a m

/-- `MemWrite(a, 1, x)` (00_scope.md R14, 20_memory.md R81): byte `x` stored at `a`, the addresses kept rising. -/
def Memory.store (a : Nat) (x : Byte) : Memory → Memory
  | [] => [(a, x)]
  | (b, y) :: m =>
    if a < b then (a, x) :: (b, y) :: m
    else if a = b then (a, x) :: m
    else (b, y) :: Memory.store a x m

/-- `MemRead(a, 1)` (00_scope.md R14, 20_memory.md R81). A byte no host write has stored since reset holds a free
value, fixed until a host write stores one (20_memory.md R84; log 5). -/
def msgByte (s : State) (a : Nat) : Byte := (s.MSG.lookup a).getD (Config.freeByte s.BASE s.draw a)

/-- The 32-bit word of the `MSG` window at message bytes `a` to `a + 3` (20_memory.md R82). -/
def msgWord (s : State) (a : Nat) : Word32 :=
  lanes (msgByte s a) (msgByte s (a + 1)) (msgByte s (a + 2)) (msgByte s (a + 3))

/-- The bytes of a 32-bit write at message bytes `a` to `a + 3`: lane `k` at `a + k` (20_memory.md R82). -/
def Memory.storeWord (a : Nat) (data : Word32) (m : Memory) : Memory :=
  Memory.store (a + 3) (lane data 3) (Memory.store (a + 2) (lane data 2)
    (Memory.store (a + 1) (lane data 1) (Memory.store a (lane data 0) m)))

/-- A 32-bit write of the `MSG` window (20_memory.md R82). -/
def msgStore (a : Nat) (data : Word32) (s : State) : State := { s with MSG := Memory.storeWord a data s.MSG }

/-- `n`, the message length in bytes (30_encoding.md R115, 42_preprocessor.md R180). -/
def messageLength (s : State) : Nat := s.MSG_LEN.toNat

/-- `raise Error(code)` (60_exceptions.md R272): the engine's one exception entry. It saves `ERRCODE` and nothing
else (R283). -/
def raiseError (code : ErrCode) (s : State) : State :=
  { s with ERR := true, ERRCODE := code, PHASE := .error }

/-- What leaving a finished or failed computation clears (60_exceptions.md R284): CLEAR, HASH and ABORT all do. -/
def clearOutcome (s : State) : State := { s with DONE := false, ERR := false, ERRCODE := .none }

/-- `reject(cause, off, data)` (60_exceptions.md R276): the first rejection is captured, a later one sets only `REJ`. -/
def reject (cause : Word32) (off : Nat) (data : Word32) (s : State) : State :=
  { s with
    REJ := true
    REJ_CAUSE := if s.REJ then s.REJ_CAUSE else cause
    REJ_ADDR := if s.REJ then s.REJ_ADDR else BitVec.ofNat 32 off
    REJ_DATA := if s.REJ then s.REJ_DATA else data }

/-- Clearing the rejection record, which CLEAR and ABORT do (40_commands.md R135, R137). -/
def clearRejection (s : State) : State :=
  { s with REJ := false, REJ_CAUSE := 0, REJ_ADDR := 0, REJ_DATA := 0 }

/-- Clearing every register of the computation, which HASH and ABORT do (40_commands.md R133, R135). -/
def clearComputation (s : State) : State :=
  { clearOutcome s with
    H := Vector.replicate 8 0
    S := Vector.replicate 8 0
    W := Vector.replicate 80 0
    M := Vector.replicate 16 0
    DIGEST := Vector.replicate 128 0
    NBLK := 0
    BLK := 0
    J := 0 }

/-- The reset event (70_reset_and_hazards.md R300, R301): every piece of the engine's storage at its reset value, and a
new draw of the unspecified buffer bytes (93_implementation_defined.md I4). The host's lines, its names and the coming
turns are not the engine's (log 6). -/
def resetEvent (s : State) : State :=
  { State.reset with
    BASE := s.BASE
    draw := s.draw + 1
    host := s.host
    names := s.names
    response := s.response
    turns := s.turns
    turnDraws := s.turnDraws
    wait := s.wait }

/-- The agent that acts next: the first coming turn, or a free one when none is given (20_memory.md R95; log 1). Of the free
turns, the engine's comes once the wait is over, so a busy engine is never left unstepped for ever
(46_variant_config.md R258; log 12). -/
def nextTurn (s : State) : Turn :=
  match s.turns with
  | t :: _ => t
  | [] => if s.wait = 0 then .engine else Config.freeTurn s.BASE s.turnDraws

/-- The state once the next turn has been taken from the coming turns or drawn. A free turn uses up one of the wait, and the
engine's own turn at its end draws a new one (log 12). -/
def takeTurn (s : State) : State :=
  { s with
    turns := s.turns.tail
    turnDraws := if s.turns.isEmpty then s.turnDraws + 1 else s.turnDraws
    wait :=
      if s.turns.isEmpty then (if s.wait = 0 then Config.freeWait s.BASE s.turnDraws else s.wait - 1) else s.wait }

/-- The state once the port has answered the latest access with `r` (20_memory.md R85, R90). -/
def respond (r : Response) (s : State) : State := { s with response := some r }

/-- The state with the host's coming lines set to `ls`. -/
def setHost (ls : List HostLine) (s : State) : State := { s with host := ls }

/-- The state with `name` bound to `v` (30_encoding.md R118). -/
def bindName (name : String) (v : Word32) (s : State) : State := { s with names := (name, v) :: s.names }

end Sys2Proof.Machine
end

