-- ==== Sys2Proof/Machine/WordOps.lean ====
section
/-! DEFINITION. The word operators of 41_word_ops.md, each at an explicit width. -/

namespace Sys2Proof.Machine

variable {w : Nat}

/-- `a +w b` (R160): the exact sum, reduced modulo 2^w. -/
def addW (a b : BitVec w) : BitVec w := BitVec.ofNat w (a.toNat + b.toNat)

/-- `not_w(x)` (R161). -/
def notW (x : BitVec w) : BitVec w := ~~~x

/-- `rotr_w(x, r)` (R162), for `0 < r < w` (log 19). -/
def rotr (x : BitVec w) (r : Nat) : BitVec w := (x >>> r) ||| (x <<< (w - r))

/-- `shr_w(x, s)` (R163), for `0 < s < w` (log 19). -/
def shr (x : BitVec w) (s : Nat) : BitVec w := x >>> s

/-- `Ch_w(x, y, z)` (R164). -/
def ch (x y z : BitVec w) : BitVec w := (x &&& y) ^^^ (notW x &&& z)

/-- `Maj_w(x, y, z)` (R165). -/
def maj (x y z : BitVec w) : BitVec w := (x &&& y) ^^^ (x &&& z) ^^^ (y &&& z)

/-- Three rotations joined by xor (R166). -/
def rot3 (x : BitVec w) (a b c : Nat) : BitVec w := rotr x a ^^^ rotr x b ^^^ rotr x c

/-- Two rotations and a shift joined by xor (R167). -/
def rot2shr (x : BitVec w) (a b c : Nat) : BitVec w := rotr x a ^^^ rotr x b ^^^ shr x c

/-- `Σ0` (R166). -/
def bigSigma0 (f : Family) (x : BitVec f.w) : BitVec f.w :=
  match f with
  | .f32 => rot3 x 2 13 22
  | .f64 => rot3 x 28 34 39

/-- `Σ1` (R166). -/
def bigSigma1 (f : Family) (x : BitVec f.w) : BitVec f.w :=
  match f with
  | .f32 => rot3 x 6 11 25
  | .f64 => rot3 x 14 18 41

/-- `σ0` (R167). -/
def smallSigma0 (f : Family) (x : BitVec f.w) : BitVec f.w :=
  match f with
  | .f32 => rot2shr x 7 18 3
  | .f64 => rot2shr x 1 8 7

/-- `σ1` (R167). -/
def smallSigma1 (f : Family) (x : BitVec f.w) : BitVec f.w :=
  match f with
  | .f32 => rot2shr x 17 19 10
  | .f64 => rot2shr x 19 61 6

/-- The part of a 64-bit element that takes part in the computation of family `f` (10_state.md R30). -/
def narrow (f : Family) (x : Word64) : BitVec f.w := x.setWidth f.w

/-- A word of family `f` as it is stored, zero-extended to 64 bits (10_state.md R30). -/
def widen (f : Family) (x : BitVec f.w) : Word64 := x.setWidth 64

/-- A register file of 64-bit elements as words of family `f`. -/
def narrowAll (f : Family) {n : Nat} (xs : Vector Word64 n) : Vector (BitVec f.w) n :=
  Vector.ofFn fun i => narrow f xs[i]

/-- Words of family `f` as a register file of 64-bit elements. -/
def widenAll (f : Family) {n : Nat} (xs : Vector (BitVec f.w) n) : Vector Word64 n :=
  Vector.ofFn fun i => widen f xs[i]

end Sys2Proof.Machine
end

