-- ==== Sys2Proof/Machine/Compressor.lean ====
section
/-! DEFINITION. The Compressor (44_compressor.md): one round, and the ROUND and FOLD steps. -/

namespace Sys2Proof.Machine

/-- `T1` (R216), with `k = K_v[j]` and `x = W[j]`. -/
def temp1 (f : Family) (S : Vector (BitVec f.w) 8) (k x : BitVec f.w) : BitVec f.w :=
  addW (addW (addW (addW S[7] (bigSigma1 f S[4])) (ch S[4] S[5] S[6])) k) x

/-- `T2` (R216). -/
def temp2 (f : Family) (S : Vector (BitVec f.w) 8) : BitVec f.w :=
  addW (bigSigma0 f S[0]) (maj S[0] S[1] S[2])

/-- The state update of one round (R217). -/
def roundUpdate (f : Family) (S : Vector (BitVec f.w) 8) (k x : BitVec f.w) : Vector (BitVec f.w) 8 :=
  #v[addW (temp1 f S k x) (temp2 f S), S[0], S[1], S[2], addW S[3] (temp1 f S k x), S[4], S[5], S[6]]

/-- `W[j]` as a word of family `f`. A round reads it only for `j < R(v)` (R218); 0 past the file (log 19). -/
def scheduleWord (f : Family) (W : Vector Word64 80) (j : Nat) : BitVec f.w := narrow f (W[j]?.getD 0)

/-- The ROUND engine step (R218). -/
def stepRound (s : State) : State :=
  { s with
    S := widenAll s.VAR.family (roundUpdate s.VAR.family (narrowAll s.VAR.family s.S)
      (roundConstant s.VAR s.J.toNat) (scheduleWord s.VAR.family s.W s.J.toNat))
    J := s.J + 1 }

/-- `H[i] +w S[i]` for `i` in 0..7, as words of family `f` (R222). -/
def foldWords (f : Family) (H S : Vector (BitVec f.w) 8) : Vector (BitVec f.w) 8 :=
  Vector.ofFn fun i => addW H[i] S[i]

/-- The FOLD engine step (R222). The test reads the incremented index (90_conflicts.md C8) and is at 32 bits (log 8). -/
def stepFold (s : State) : State :=
  { s with
    H := widenAll s.VAR.family (foldWords s.VAR.family (narrowAll s.VAR.family s.H) (narrowAll s.VAR.family s.S))
    BLK := s.BLK + 1
    PHASE := if s.BLK + 1 < s.NBLK then .sched else .asm }

end Sys2Proof.Machine
end

