-- ==== Sys2Proof/Machine/Digest.lean ====
section
/-! DEFINITION. The Digest assembler (45_digest.md): the digest string as ASCII bytes, and the ASM step. -/

namespace Sys2Proof.Machine

/-- The ASCII code of `digit(x)`: '0'..'9', then lowercase 'a'..'f' (R236, R237). -/
def hexDigit (x : BitVec 4) : Byte :=
  if x.toNat < 10 then BitVec.ofNat 8 (0x30 + x.toNat) else BitVec.ofNat 8 (0x61 + (x.toNat - 10))

/-- `hex_d(x)`: `d` digits, the most significant nibble first (R236). -/
def hexWord {w : Nat} (d : Nat) (x : BitVec w) : List Byte :=
  (List.range d).map fun q => hexDigit (x.extractLsb' (4 * (d - 1 - q)) 4)

/-- `Digest_v(H)`: the first `OW(v)` words in register order (R235, R240). -/
def digestString (v : Variant) (H : Vector Word64 8) : List Byte :=
  (H.toList.take v.OW).flatMap fun x => hexWord (v.w / 4) (narrow v.family x)

/-- `D[0..127]` after the ASM step: the digest string, then 0x00 (R238). -/
def digestFile (v : Variant) (H : Vector Word64 8) : Vector Byte 128 :=
  Vector.ofFn fun k => (digestString v H).getD k 0x00

/-- The ASM engine step (R238). -/
def stepAsm (s : State) : State :=
  { s with
    DIGEST := digestFile s.VAR s.H
    DONE := true
    PHASE := .done }

end Sys2Proof.Machine
end

