-- ==== Sys2Proof/Machine/Preprocessor.lean ====
section
/-! DEFINITION. The Preprocessor (42_preprocessor.md): padding, block count, the padded stream and the block parse, as
functions of the variant `v`, the length `n` in bytes and the message bytes `mem`; and the PRE step. -/

namespace Sys2Proof.Machine

/-- `ℓ = 8 * n`, exact (R181). -/
def bitLength (n : Nat) : Nat := 8 * n

/-- `k`, the number of zero bits: `(B - Lf - 1 - ℓ) mod B`, taken in the integers (R182). -/
def zeroBits (v : Variant) (n : Nat) : Nat :=
  (((v.B : Int) - v.Lf - 1 - bitLength n) % v.B).toNat

/-- The length of the padded message in bits, `ℓ + 1 + k + Lf` (R182). -/
def paddedBits (v : Variant) (n : Nat) : Nat := bitLength n + 1 + zeroBits v n + v.Lf

/-- `N(n, v)`, the block count (R183). -/
def blockCount (v : Variant) (n : Nat) : Nat := paddedBits v n / v.B

/-- `P(i)`, byte `i` of the padded message (R184), which the spec gives for `i < N*Bb`. Past the end this total function
answers the low byte of the bit length, the model's choice, which no run reads (log 19). -/
def paddedByte (v : Variant) (n : Nat) (mem : Nat → Byte) (i : Nat) : Byte :=
  let total := blockCount v n * (v.B / 8)
  if i < n then mem i
  else if i = n then 0x80
  else if total - v.Lf / 8 ≤ i then BitVec.ofNat 8 (bitLength n / 2 ^ (8 * (total - 1 - i)))
  else 0x00

/-- `block(b)[t]`: the big-endian word of `w(v)/8` padded bytes (R187). -/
def blockWord (v : Variant) (n : Nat) (mem : Nat → Byte) (b t : Nat) : BitVec v.w :=
  BitVec.ofNat v.w (beNat ((List.range (v.w / 8)).map fun q =>
    paddedByte v n mem (b * (v.B / 8) + t * (v.w / 8) + q)))

/-- `block(b)`: exactly 16 words in every variant (R187), which the spec gives for `b < N`. Past the last block its words are
those of the bytes past the end of `paddedByte` (log 19). -/
def block (v : Variant) (n : Nat) (mem : Nat → Byte) (b : Nat) : Vector (BitVec v.w) 16 :=
  Vector.ofFn fun t => blockWord v n mem b t

/-- The first input check of R185: the bit length cannot be represented in the length field. -/
def inputTooLarge (v : Variant) (n : Nat) : Bool := decide (2 ^ v.Lf ≤ bitLength n)

/-- The second input check of R185: the message extends past the buffer. -/
def invalidInput (n : Nat) : Bool := decide (Config.MSG_CAP < n)

/-- The PRE engine step (R186). -/
def stepPre (s : State) : State :=
  if inputTooLarge s.VAR (messageLength s) then raiseError .inputTooLarge s
  else if invalidInput (messageLength s) then raiseError .invalidInput s
  else
    { s with
      NBLK := BitVec.ofNat 32 (blockCount s.VAR (messageLength s))
      BLK := 0
      H := initialValue s.VAR
      PHASE := .sched }

end Sys2Proof.Machine
end

