-- ==== Sys2Proof/Machine/Scheduler.lean ====
section
/-! DEFINITION. The Scheduler (43_scheduler.md): the schedule of a block and the SCHED step. -/

namespace Sys2Proof.Machine

/-- The next schedule word, from the words so far, latest first (R200): the words at `t-16`, `t-15`, `t-7` and `t-2`
stand at places 15, 14, 6 and 1. -/
def schedNext (f : Family) (acc : List (BitVec f.w)) : BitVec f.w :=
  addW (addW (addW (acc.getD 15 0) (smallSigma0 f (acc.getD 14 0))) (acc.getD 6 0)) (smallSigma1 f (acc.getD 1 0))

/-- `k` more schedule words in front of the words so far, latest first. -/
def schedExtend (f : Family) : Nat → List (BitVec f.w) → List (BitVec f.w)
  | 0, acc => acc
  | k + 1, acc => schedExtend f k (schedNext f acc :: acc)

/-- `Sched_v(M)`: the `R(v)` schedule words of a block, in order (R200). -/
def schedule (v : Variant) (blk : Vector (BitVec v.w) 16) : List (BitVec v.w) :=
  (schedExtend v.family (v.R - 16) blk.toList.reverse).reverse

/-- `W[0..79]` after the SCHED step: the schedule words, then 0 (R201, R202). -/
def scheduleFile (v : Variant) (blk : Vector (BitVec v.w) 16) : Vector Word64 80 :=
  Vector.ofFn fun t => widen v.family ((schedule v blk).getD t 0)

/-- The block the SCHED step loads: `block(BLK)` of the message in the buffer (R201). -/
def currentBlock (s : State) : Vector (BitVec s.VAR.w) 16 :=
  block s.VAR (messageLength s) (msgByte s) s.BLK.toNat

/-- The SCHED engine step (R201, R203). -/
def stepSched (s : State) : State :=
  { s with
    M := widenAll s.VAR.family (currentBlock s)
    W := scheduleFile s.VAR (currentBlock s)
    S := s.H
    J := 0
    PHASE := .comp }

end Sys2Proof.Machine
end

