-- ==== Sys2Proof/Machine/Engine.lean ====
section
/-! DEFINITION. The engine's turn: the step relation of 46_variant_config.md R256. -/

namespace Sys2Proof.Machine

/-- The engine's turn in phase `COMP` (46_variant_config.md R256): ROUND while `J < R(v)`, FOLD when `J = R(v)`. `J` above
`R(v)` is never held (10_state.md R43), and the table gives it no step (log 7). -/
def engineComp (s : State) : Result :=
  if s.J.toNat < s.VAR.R then .next (stepRound s)
  else if s.J.toNat = s.VAR.R then .next (stepFold s)
  else .fault .internalInvariantViolation

/-- The engine's turn (46_variant_config.md R256). In `IDLE`, `DONE` and `ERROR` no step is enabled, and the engine keeps
all state (60_exceptions.md R290). -/
def engineTurn (s : State) : Result :=
  match s.PHASE with
  | .idle => .next s
  | .pre => .next (stepPre s)
  | .sched => .next (stepSched s)
  | .comp => engineComp s
  | .asm => .next (stepAsm s)
  | .done => .next s
  | .error => .next s

end Sys2Proof.Machine
end

