-- ==== Sys2Proof/WellFormed.lean ====
section
/-! DEFINITION. Which terms of the syntax are well-formed: the checks of a command word's fields
(30_encoding.md R111 to R113) and of an instruction. -/

namespace Sys2Proof

/-- `RSV` must be 0 (30_encoding.md R111). -/
def CommandFields.rsvOk (f : CommandFields) : Bool := f.rsv == 0

/-- `OP` is one of the four defined values (30_encoding.md R112). -/
def CommandFields.opOk (f : CommandFields) : Bool :=
  f.op == 0x00 || f.op == 0x01 || f.op == 0x02 || f.op == 0x03

/-- For HASH, `VAR` is not the reserved 3; for any other `OP`, `VAR` must be 0 (30_encoding.md R113). -/
def CommandFields.varOk (f : CommandFields) : Bool :=
  if f.op == 0x01 then f.var != 3 else f.var == 0

def CommandFields.wf (f : CommandFields) : Bool := f.rsvOk && f.opOk && f.varOk

/-- A command has no operand but the variant its constructor names, so every instruction is well-formed
(30_encoding.md R115). -/
def Instr.wf : Instr → Bool
  | .nop | .hash256 | .hash384 | .hash512 | .abort | .clear => true

end Sys2Proof
end

