-- ==== Sys2Proof/Decode.lean ====
section
/-! DEFINITION. The decoder of command words (30_encoding.md R114), total on all 2^32 words and naming why a word is
reserved, and the encoder written from the same tables (R111, R116). -/

namespace Sys2Proof

/-- The fields of the word `c` (30_encoding.md R111). -/
def commandFields (c : Word32) : CommandFields where
  rsv := c.extractLsb' 10 22
  var := c.extractLsb' 8 2
  op := c.extractLsb' 0 8

/-- 30_encoding.md R114 on the fields of a word. -/
def decodeFields (f : CommandFields) : Except Reserved Instr :=
  if f.rsv = 0 then
    if f.op = 0x00 then (if f.var = 0 then .ok .nop else .error .varNotZero)
    else if f.op = 0x01 then
      if f.var = 0 then .ok .hash256
      else if f.var = 1 then .ok .hash384
      else if f.var = 2 then .ok .hash512
      else .error .variantReserved
    else if f.op = 0x02 then (if f.var = 0 then .ok .abort else .error .varNotZero)
    else if f.op = 0x03 then (if f.var = 0 then .ok .clear else .error .varNotZero)
    else .error .opReserved
  else .error .rsvNotZero

/-- The decode function of 30_encoding.md R114. `.error` is the spec's `RESERVED`. -/
def decode (c : Word32) : Except Reserved Instr := decodeFields (commandFields c)

/-- The fields of each row of the opcode map (30_encoding.md R116). -/
def fieldsOf : Instr → CommandFields
  | .nop => { rsv := 0, var := 0, op := 0x00 }
  | .hash256 => { rsv := 0, var := 0, op := 0x01 }
  | .hash384 => { rsv := 0, var := 1, op := 0x01 }
  | .hash512 => { rsv := 0, var := 2, op := 0x01 }
  | .abort => { rsv := 0, var := 0, op := 0x02 }
  | .clear => { rsv := 0, var := 0, op := 0x03 }

/-- The word with the fields `f`, most significant field first (30_encoding.md R111). -/
def assemble (f : CommandFields) : Word32 := f.rsv ++ f.var ++ f.op

/-- The command word of an instruction (30_encoding.md R116). -/
def encode (i : Instr) : Word32 := assemble (fieldsOf i)

/-- The command word whose `nbits` low bits are those of `w`, the bits above being 0. -/
def tableWord (nbits w : Nat) : Word32 := BitVec.ofNat 32 (w % 2 ^ nbits)

/-- What the decoder reads from the instruction of `nbits` bits `w`. Every command is exactly one 32-bit word
(30_encoding.md R110), so a longer instruction is none of the engine's. -/
def decodeTableWord (nbits w : Nat) : Option Instr :=
  if nbits ≤ 32 then (decode (tableWord nbits w)).toOption else none

end Sys2Proof
end

