-- ==== Sys2Proof/Machine/Commands.lean ====
section
/-! DEFINITION. The meanings of the commands (40_commands.md), one definition per row of the opcode table. -/

namespace Sys2Proof.Machine

/-- `execute` of R130 for a word that decodes to `i`: performed where legal, otherwise rejected with cause 2. The word
of a command is the one its row of the opcode map gives (30_encoding.md R116; log 16). -/
def guarded (i : Instr) (perform : State → State) (s : State) : Result :=
  .next (if legal i s.PHASE then perform s else reject 2 cmdOffset (encode i) s)

/-- `perform(NOP)` (R131). -/
def performNop (s : State) : State := s

/-- `perform(HASH(v))` (R133). -/
def performHash (v : Variant) (s : State) : State := { clearComputation s with VAR := v, PHASE := .pre }

/-- `perform(ABORT)` (R135). -/
def performAbort (s : State) : State := { clearRejection (clearComputation s) with VAR := .v256, PHASE := .idle }

/-- `perform(CLEAR)` (R137). -/
def performClear (s : State) : State := { clearRejection (clearOutcome s) with PHASE := .idle }

/-- NOP (R131). -/
def execNop (s : State) : Result := guarded .nop performNop s

/-- HASH.256 (R133). -/
def execHash256 (s : State) : Result := guarded .hash256 (performHash .v256) s

/-- HASH.384 (R133). -/
def execHash384 (s : State) : Result := guarded .hash384 (performHash .v384) s

/-- HASH.512 (R133). -/
def execHash512 (s : State) : Result := guarded .hash512 (performHash .v512) s

/-- ABORT (R135). -/
def execAbort (s : State) : Result := guarded .abort performAbort s

/-- CLEAR (R137). -/
def execClear (s : State) : Result := guarded .clear performClear s

end Sys2Proof.Machine
end

