-- ==== Sys2Proof/Machine/Dispatch.lean ====
section
/-! DEFINITION. The meaning of each command, one arm per constructor of Instr. -/

namespace Sys2Proof.Machine

def exec (i : Instr) (s : State) : Host.Outcome State Fault Refusal :=
  match i with
  | .nop => Sys2Proof.Machine.execNop s
  | .hash256 => Sys2Proof.Machine.execHash256 s
  | .hash384 => Sys2Proof.Machine.execHash384 s
  | .hash512 => Sys2Proof.Machine.execHash512 s
  | .abort => Sys2Proof.Machine.execAbort s
  | .clear => Sys2Proof.Machine.execClear s

end Sys2Proof.Machine
end

