-- ==== Sys2Proof/Machine/HostPort.lean ====
section
/-! DEFINITION. The host port (20_memory.md R85 to R92) and the register window (10_state.md R54 to R65). -/

namespace Sys2Proof.Machine

/-- The access the port performs: 4 bytes, aligned, inside the window (20_memory.md R85 to R87). -/
def accessOk (off size : Nat) : Bool :=
  size == 4 && off % 4 == 0 && (decide (off < msgBase) || decide (off - msgBase < Config.MSG_CAP))

/-- The location at an aligned offset of the window (10_state.md R54, 20_memory.md R82). The port performs no access at any
other offset, and what this total function answers there is the model's choice (log 19). -/
def locate (off : Nat) : Location :=
  if msgBase ≤ off then .msg (off - msgBase)
  else if off = 0x000 then .id
  else if off = cmdOffset then .cmd
  else if off = 0x008 then .status
  else if off = 0x00c then .irqEn
  else if off = 0x010 then .msgLenLo
  else if off = 0x014 then .msgLenHi
  else if off = 0x018 then .cap
  else if off = 0x01c then .blockCnt
  else if off = 0x020 then .blockIdx
  else if off = 0x024 then .round
  else if off = 0x028 then .rejCause
  else if off = 0x02c then .rejAddr
  else if off = 0x030 then .rejData
  else if 0x100 ≤ off ∧ off < 0x140 then
    if (off - 0x100) % 8 = 0 then .hLo (Fin.ofNat 8 ((off - 0x100) / 8))
    else .hHi (Fin.ofNat 8 ((off - 0x100) / 8))
  else if 0x200 ≤ off ∧ off < 0x280 then .digestHex (Fin.ofNat 32 ((off - 0x200) / 4))
  else .reserved

/-- The word of the `DIGEST_HEX` window at index `k` (10_state.md R61). -/
def digestWord (s : State) (k : Fin 32) : Word32 :=
  lanes s.DIGEST[4 * k.val] s.DIGEST[4 * k.val + 1] s.DIGEST[4 * k.val + 2] s.DIGEST[4 * k.val + 3]

/-- What a read of a location returns (10_state.md R52 to R63, 20_memory.md R82). No read has a side effect
(20_memory.md R92). -/
def readLocation (s : State) : Location → Word32
  | .id => idConstant
  | .cmd => 0
  | .status => statusWord s
  | .irqEn => s.IRQ_EN.setWidth 32
  | .msgLenLo => loHalf s.MSG_LEN
  | .msgLenHi => hiHalf s.MSG_LEN
  | .cap => capConstant
  | .blockCnt => s.NBLK
  | .blockIdx => s.BLK
  | .round => s.J
  | .rejCause => s.REJ_CAUSE
  | .rejAddr => s.REJ_ADDR
  | .rejData => s.REJ_DATA
  | .hLo i => loHalf s.H[i]
  | .hHi i => hiHalf s.H[i]
  | .digestHex k => digestWord s k
  | .msg a => msgWord s a
  | .reserved => 0

/-- `HostRead(off)` of a performed access (00_scope.md R14). -/
def hostRead (s : State) (off : Nat) : Word32 := readLocation s (locate off)

/-- `execute(c)` (40_commands.md R130): the reserved-encoding check comes before the phase check. -/
def execute (c : Word32) (s : State) : Result :=
  match decode c with
  | .error _ => .next (reject 1 cmdOffset c s)
  | .ok i => exec i s

/-- A write of a location that is locked while busy (10_state.md R65). -/
def lockedWrite (off : Nat) (data : Word32) (perform : State → State) (s : State) : State :=
  if s.busy then reject 3 off data s else perform s

/-- `MSG_LEN_LO <- data` (10_state.md R57). -/
def setMsgLenLo (data : Word32) (s : State) : State := { s with MSG_LEN := setLo s.MSG_LEN data }

/-- `MSG_LEN_HI <- data` (10_state.md R57). -/
def setMsgLenHi (data : Word32) (s : State) : State := { s with MSG_LEN := setHi s.MSG_LEN data }

/-- `IRQ_EN <- data[2:0]` (10_state.md R56). -/
def setIrqEn (data : Word32) (s : State) : State := { s with IRQ_EN := data.extractLsb' 0 3 }

/-- `HostWrite(off, data)` of a performed access (00_scope.md R14): a command, a write of a writable register, or
nothing for a read-only or reserved one (10_state.md R63, R64). -/
def hostWrite (off : Nat) (data : Word32) (s : State) : Result :=
  match locate off with
  | .cmd => execute data s
  | .irqEn => .next (setIrqEn data s)
  | .msgLenLo => .next (lockedWrite off data (setMsgLenLo data) s)
  | .msgLenHi => .next (lockedWrite off data (setMsgLenHi data) s)
  | .msg a => .next (lockedWrite off data (msgStore a data) s)
  | .id | .status | .cap | .blockCnt | .blockIdx | .round | .rejCause | .rejAddr | .rejData => .next s
  | .hLo _ | .hHi _ | .digestHex _ | .reserved => .next s

/-- The port's answer to a read: data 0 with the error for an access it does not perform (20_memory.md R90). -/
def readResponse (off size : Nat) (s : State) : Response :=
  if accessOk off size then { busError := false, data := some (hostRead s off) }
  else { busError := true, data := some 0 }

/-- A write access: performed, or answered with a bus error that changes no engine state (20_memory.md R90). -/
def portWrite (off size : Nat) (data : Word32) (s : State) : Result :=
  if accessOk off size then hostWrite off data (respond { busError := false, data := none } s)
  else .next (respond { busError := true, data := none } s)

/-- One host access (20_memory.md R85). -/
def performAccess (a : Access) (s : State) : Result :=
  match a.kind with
  | .read => .next (respond (readResponse a.off a.size s) s)
  | .write data => portWrite a.off a.size data s

end Sys2Proof.Machine
end

