-- ==== Sys2Proof/Machine/HostProgram.lean ====
section
/-! DEFINITION. The host's turn: one line of its program (30_encoding.md R118), its operands evaluated over the names bound
so far, and the expansions of the pseudo-instructions (R119). -/

namespace Sys2Proof.Machine

/-- The value of a name: what the latest `rd32` of that name has bound, or a free value when none has
(30_encoding.md R118; log 21). -/
def nameValue (s : State) (x : String) : Word32 := (s.names.lookup x).getD (Config.freeName s.BASE x)

/-- The value of an operand, exact (30_encoding.md R118). -/
def operandValue (s : State) : Operand → Nat
  | .num n => n
  | .name x => (nameValue s x).toNat
  | .sum a b => operandValue s a + operandValue s b
  | .mod a n => operandValue s a % n
  | .div a n => operandValue s a / n

/-- The value of an operand as the 32 bits a line carries (log 20). -/
def operandWord (s : State) (a : Operand) : Word32 := BitVec.ofNat 32 (operandValue s a)

/-- What a line does, its operands evaluated in the state in which it is performed (30_encoding.md R118). -/
def lineAction (s : State) : HostLine → HostAction
  | .wr32 off data => .wr32 (operandValue s off) (operandWord s data)
  | .rd32 off x => .rd32 (operandValue s off) x
  | .poll off mask value => .poll (operandValue s off) (operandWord s mask) (operandWord s value)
  | .pollnz off mask => .pollnz (operandValue s off) (operandWord s mask)
  | .access a => .access a

/-- The data a read line receives from the port: 0 with a bus error (20_memory.md R90). -/
def readValue (off : Nat) (s : State) : Word32 := (readResponse off 4 s).data.getD 0

/-- What a poll line leaves to do: nothing of it once its condition holds, itself again until then
(30_encoding.md R118). -/
def pollRest (holds : Bool) (line : HostLine) (rest : List HostLine) : List HostLine :=
  if holds then rest else line :: rest

/-- One access of the line `line`, the lines after it being `rest` (30_encoding.md R118). -/
def performLine (line : HostLine) (rest : List HostLine) (s : State) : Result :=
  match lineAction s line with
  | .wr32 off data => performAccess { kind := .write data, off := off, size := 4 } (setHost rest s)
  | .rd32 off name => .next (bindName name (readValue off s) (respond (readResponse off 4 s) (setHost rest s)))
  | .poll off mask value =>
    .next (respond (readResponse off 4 s) (setHost (pollRest (readValue off s &&& mask == value) line rest) s))
  | .pollnz off mask =>
    .next (respond (readResponse off 4 s) (setHost (pollRest (readValue off s &&& mask != 0) line rest) s))
  | .access a => performAccess a (setHost rest s)

/-- The host's turn: its first line, or nothing when it has none. -/
def hostTurn (s : State) : Result :=
  match s.host with
  | [] => .next s
  | line :: rest => performLine line rest s

/-- Word `m` of a message string, the bytes past its end being 0 (30_encoding.md R119). -/
def wrmsgWord (bytes : List Byte) (m : Nat) : Word32 :=
  lanes (bytes.getD (4 * m) 0) (bytes.getD (4 * m + 1) 0) (bytes.getD (4 * m + 2) 0) (bytes.getD (4 * m + 3) 0)

/-- The expansion of a pseudo-instruction (30_encoding.md R119). -/
def expand : Pseudo → List HostLine
  | .cmd i => [.wr32 (.num cmdOffset) (.num (encode i).toNat)]
  | .setlen n => [.wr32 (.num 0x010) (.mod n (2 ^ 32)), .wr32 (.num 0x014) (.div n (2 ^ 32))]
  | .wrmsg bytes =>
    (List.range ((bytes.length + 3) / 4)).map fun m => .wr32 (.num (msgBase + 4 * m)) (.num (wrmsgWord bytes m).toNat)
  | .waitdone => [.pollnz (.num 0x008) (.num 0x0000_0030)]

end Sys2Proof.Machine
end

