-- ==== Sys2Proof/Machine/Step.lean ====
section
/-! DEFINITION. One step: the next turn of the interleaving (20_memory.md R95). A turn of an agent that has no enabled
action changes nothing but the turns. -/

namespace Sys2Proof.Machine

/-- One atomic action of the host, of the engine or of the reset input. -/
def step (s : State) : Host.Outcome State Fault Refusal :=
  match nextTurn s with
  | .host => hostTurn (takeTurn s)
  | .engine => engineTurn (takeTurn s)
  | .reset => .next (resetEvent (takeTurn s))

/-- `s` with the command word placed where the engine takes its next command: as the host's next line, a write of `CMD`,
in the host's next turn (log 11). -/
def State.withFetchWord (s : State) (nbits w : Nat) : State :=
  { s with
    host := .wr32 (.num cmdOffset) (.num (tableWord nbits w).toNat) :: s.host
    turns := .host :: s.turns }

end Sys2Proof.Machine
end

