-- ==== Sys2Proof/Machine/Platform.lean ====
section
/-! DEFINITION. The platform's view: `INSTANCES` independent engines, each with its own window at its own `BASE`
(00_scope.md R9, 20_memory.md R102, 60_exceptions.md R282, R292; log 9). -/

namespace Sys2Proof.Machine

/-- The engines of a platform, each at its own `BASE`. Its length is `INSTANCES`. -/
abbrev Platform := List State

/-- The size in bytes of one register window (10_state.md R54). -/
def windowSize : Nat := msgBase + Config.MSG_CAP

/-- `BASE` is aligned to a power of two that is at least the window's size (00_scope.md R9). -/
def alignedBase (base : Nat) : Prop := ∃ k, windowSize ≤ 2 ^ k ∧ 2 ^ k ∣ base

/-- The windows at two bases do not overlap (20_memory.md R102). -/
def windowsDisjoint (a b : Nat) : Prop := a + windowSize ≤ b ∨ b + windowSize ≤ a

/-- At least one instance, aligned bases, no two windows overlapping (00_scope.md R9, 20_memory.md R102). -/
def platformWf (p : Platform) : Prop :=
  p ≠ [] ∧ (∀ x ∈ p, alignedBase x.BASE) ∧ p.Pairwise (fun x y => windowsDisjoint x.BASE y.BASE)

/-- The platform with every engine in its reset state (60_exceptions.md R292). The free values of an engine take its `BASE`,
so nothing relates the unwritten buffer bytes or the free turns of two instances: they share nothing (log 9). -/
def platformReset (bases : List Nat) : Platform := bases.map fun b => { State.reset with BASE := b }

/-- Instance `k` takes one step; the others are untouched (60_exceptions.md R292). Where there is no instance `k`, nothing
happens. -/
def platformStep (k : Nat) (p : Platform) : Host.Outcome Platform Fault Refusal :=
  match p[k]? with
  | none => .next p
  | some x =>
    match step x with
    | .next t => .next (p.set k t)
    | .fault r => .fault r
    | .refused r => .refused r

/-- The instance whose window holds the host address `addr`, and the offset in it (20_memory.md R102). -/
def routeFrom (k addr : Nat) : Platform → Option (Nat × Nat)
  | [] => none
  | x :: p => if x.BASE ≤ addr ∧ addr < x.BASE + windowSize then some (k, addr - x.BASE) else routeFrom (k + 1) addr p

def route (addr : Nat) (p : Platform) : Option (Nat × Nat) := routeFrom 0 addr p

/-- An access of the host address `addr` given to the instance whose window holds it, after that instance's earlier
lines. An address in no window reaches no engine (20_memory.md R89). -/
def issue (kind : AccessKind) (addr size : Nat) (p : Platform) : Platform :=
  match route addr p with
  | none => p
  | some (k, off) =>
    p.modify k fun x => setHost (x.host ++ [.access { kind := kind, off := off, size := size }]) x

/-- The interrupt outputs of the instances, one each (60_exceptions.md R282). -/
def platformIrqs (p : Platform) : List Bool := p.map irq

end Sys2Proof.Machine
end

