-- ==== Sys2Proof/Machine/Reference.lean ====
section
/-! DEFINITION. The pure functions the engine's steps add up to: one block's compression (44_compressor.md R224) and
the accumulator after all blocks (46_variant_config.md R259). -/

namespace Sys2Proof.Machine

/-- The working state after the first `j` rounds over the schedule `ws`, from `S` (44_compressor.md R224), for `j` up to
`R(v)` (log 19). -/
def roundsFrom (v : Variant) (ws : List (BitVec v.w)) (S : Vector (BitVec v.w) 8) : Nat → Vector (BitVec v.w) 8
  | 0 => S
  | j + 1 => roundUpdate v.family (roundsFrom v ws S j) (roundConstant v j) (ws.getD j 0)

/-- `Compress_v(Hin, M)` (44_compressor.md R224). -/
def compress (v : Variant) (Hin : Vector (BitVec v.w) 8) (blk : Vector (BitVec v.w) 16) : Vector (BitVec v.w) 8 :=
  foldWords v.family Hin (roundsFrom v (schedule v blk) Hin v.R)

/-- The accumulator after the first `b` blocks of the message (46_variant_config.md R259), for `b` up to `N` (log 19). -/
def chain (v : Variant) (n : Nat) (mem : Nat → Byte) : Nat → Vector (BitVec v.w) 8
  | 0 => narrowAll v.family (initialValue v)
  | b + 1 => compress v (chain v n mem b) (block v n mem b)

/-- `Hfinal_v(m)` as the register file holds it (46_variant_config.md R259). -/
def hashFinal (v : Variant) (n : Nat) (mem : Nat → Byte) : Vector Word64 8 :=
  widenAll v.family (chain v n mem (blockCount v n))

end Sys2Proof.Machine
end

