-- ==== Sys2Proof/Safety.lean ====
section
/-! DEFINITION. What the whole-machine claims are stated in: the invariant of a conforming engine, the relation of its
registers to the pure functions it computes, the number of engine steps left, command writes, and safe runs. -/

namespace Sys2Proof.Machine

/-- The high 32 bits of every element are 0 (10_state.md R30). -/
def highHalvesZero {n : Nat} (xs : Vector Word64 n) : Prop := ∀ i : Fin n, hiHalf xs[i] = 0

/-- The engine is inside a block loop: the block count is that of the message in the buffer. -/
def Phase.counting : Phase → Bool
  | .sched | .comp | .asm => true
  | .idle | .pre | .done | .error => false

/-- What holds of every state a conforming engine reaches. -/
structure Inv (s : State) : Prop where
  /-- The memory keeps its canonical form and lists only bytes of the buffer (20_memory.md R81). -/
  memWf : Memory.wf s.MSG = true
  memInBuffer : ∀ c ∈ s.MSG, c.1 < Config.MSG_CAP
  /-- `DONE` stands exactly in phase `DONE` (10_state.md R45). -/
  done : s.DONE = true ↔ s.PHASE = .done
  /-- `ERR` stands exactly in phase `ERROR` (10_state.md R46). -/
  err : s.ERR = true ↔ s.PHASE = .error
  errNone : s.ERR = false → s.ERRCODE = .none
  errSome : s.ERR = true → s.ERRCODE = .invalidInput ∨ s.ERRCODE = .inputTooLarge
  /-- Without a rejection the capture is clear, and a captured cause is 1, 2 or 3 (10_state.md R47, R59). -/
  captureClear : s.REJ = false → s.REJ_CAUSE = 0 ∧ s.REJ_ADDR = 0 ∧ s.REJ_DATA = 0
  captureCause : s.REJ = true → s.REJ_CAUSE = 1 ∨ s.REJ_CAUSE = 2 ∨ s.REJ_CAUSE = 3
  /-- The counters stay in range (10_state.md R41, R43, R66). -/
  roundLe : s.J.toNat ≤ s.VAR.R
  blockLe : s.BLK.toNat ≤ s.NBLK.toNat
  blockLt : s.PHASE = .sched ∨ s.PHASE = .comp → s.BLK.toNat < s.NBLK.toNat
  blockEq : s.PHASE = .asm ∨ s.PHASE = .done → s.BLK = s.NBLK
  /-- From PRE to ASM the message fits and the block count is its own (42_preprocessor.md R183, R185). -/
  lengthFits : s.PHASE.counting = true →
    inputTooLarge s.VAR (messageLength s) = false ∧ invalidInput (messageLength s) = false
  blockCountIs : s.PHASE.counting = true → s.NBLK.toNat = blockCount s.VAR (messageLength s)
  /-- In the 256 variant the high halves of all elements are 0 (10_state.md R30). -/
  width : s.VAR = .v256 →
    highHalvesZero s.H ∧ highHalvesZero s.S ∧ highHalvesZero s.W ∧ highHalvesZero s.M
  /-- Before the IV is loaded and after an error, `H` and the counters are 0 (60_exceptions.md R272). -/
  cleared : s.PHASE = .pre ∨ s.PHASE = .error →
    s.H = Vector.replicate 8 0 ∧ s.NBLK = 0 ∧ s.BLK = 0 ∧ s.J = 0
  /-- No digest is readable before `DONE` (70_reset_and_hazards.md R311) or after an error. -/
  noDigest : s.PHASE.busy = true ∨ s.PHASE = .error → s.DIGEST = Vector.replicate 128 0
  /-- In phase `DONE` the digest is the one of the accumulator (10_state.md R45). -/
  result : s.PHASE = .done → s.DIGEST = digestFile s.VAR s.H

/-- The message in the buffer, as the engine reads it. -/
def chainNow (s : State) (b : Nat) : Vector (BitVec s.VAR.w) 8 :=
  chain s.VAR (messageLength s) (msgByte s) b

/-- The registers hold what the pure functions of 44_compressor.md R224 give at the engine's position. -/
def Computes (s : State) : Prop :=
  match s.PHASE with
  | .sched => s.H = widenAll s.VAR.family (chainNow s s.BLK.toNat)
  | .comp =>
    s.H = widenAll s.VAR.family (chainNow s s.BLK.toNat) ∧
    s.W = scheduleFile s.VAR (currentBlock s) ∧
    s.S = widenAll s.VAR.family
      (roundsFrom s.VAR (schedule s.VAR (currentBlock s)) (chainNow s s.BLK.toNat) s.J.toNat)
  | .asm => s.H = hashFinal s.VAR (messageLength s) (msgByte s)
  | .idle | .pre | .done | .error => True

/-- How many engine steps are left until `DONE` or `ERROR` (46_variant_config.md R257). -/
def stepsLeft (s : State) : Nat :=
  match s.PHASE with
  | .pre =>
    if inputTooLarge s.VAR (messageLength s) || invalidInput (messageLength s) then 1
    else 2 + blockCount s.VAR (messageLength s) * (s.VAR.R + 2)
  | .sched => (s.NBLK.toNat - s.BLK.toNat) * (s.VAR.R + 2) + 1
  | .comp => (s.VAR.R - s.J.toNat) + 1 + (s.NBLK.toNat - s.BLK.toNat - 1) * (s.VAR.R + 2) + 1
  | .asm => 1
  | .idle | .done | .error => 0

/-- How many of the next `k` steps are the engine's turns. -/
def engineTurns : Nat → State → Nat
  | 0, _ => 0
  | k + 1, s =>
    (if nextTurn s = .engine then 1 else 0) +
      match step s with
      | .next t => engineTurns k t
      | .fault _ => 0
      | .refused _ => 0

/-- The host's next line writes the word `c` to `CMD`, in either form of a write, and the lines after it are `rest`
(30_encoding.md R118, 10_state.md R62). A data operand is cut to the 32 bits a line carries (log 20). -/
def writesCommand (s : State) (c : Word32) (rest : List HostLine) : Prop :=
  (∃ off data, s.host = .wr32 off data :: rest ∧ operandValue s off = 0x004 ∧
    BitVec.ofNat 32 (operandValue s data) = c) ∨
  s.host = .access { kind := .write c, off := 0x004, size := 4 } :: rest

/-- The next turn is the host's, and it writes ABORT to `CMD`. -/
def abortsNext (s : State) : Prop := nextTurn s = .host ∧ ∃ c rest, writesCommand s c rest ∧ decode c = .ok .abort

/-- `k` steps from `s` end in a next state: no fault, no refusal. -/
def safeRun (k : Nat) (s : State) : Prop := ∃ t, Host.Core.run core k s = .next t

end Sys2Proof.Machine
end

