-- ==== Sys2Proof/Certificates/Slice0/Obligations.lean ====
section
/-! DEFINITION. The statements for the provers: what the numbered rules of spec/ say the engine does, in the model's
terms. -/

open Sys2Proof Sys2Proof.Machine

namespace Sys2Proof.Claims

/-- The state after `reject(cause, off, data)`, as 60_exceptions.md R276 writes it. -/
def rejected (cause : Word32) (off : Nat) (data : Word32) (s : State) : State :=
  if s.REJ = false then
    { s with REJ := true, REJ_CAUSE := cause, REJ_ADDR := BitVec.ofNat 32 off, REJ_DATA := data }
  else { s with REJ := true }

/-- The phases in which HASH and CLEAR are legal (40_commands.md R140). -/
def notBusy (s : State) : Prop := s.PHASE = .idle ∨ s.PHASE = .done ∨ s.PHASE = .error

/-- The busy phases (00_scope.md R19). -/
def inBusyPhase (s : State) : Prop := s.PHASE = .pre ∨ s.PHASE = .sched ∨ s.PHASE = .comp ∨ s.PHASE = .asm

/-- The state after an accepted HASH of variant `v`, as 40_commands.md R133 writes it. -/
def hashed (v : Variant) (s : State) : State :=
  { s with
    VAR := v
    DONE := false
    ERR := false
    ERRCODE := .none
    H := Vector.replicate 8 0
    S := Vector.replicate 8 0
    W := Vector.replicate 80 0
    M := Vector.replicate 16 0
    DIGEST := Vector.replicate 128 0
    NBLK := 0
    BLK := 0
    J := 0
    PHASE := .pre }

/-- 40_commands.md R133 for one HASH command `i` with word `c` and variant `v`. -/
def hashRule (i : Instr) (c : Word32) (v : Variant) : Prop :=
  decode c = .ok i ∧
  ∀ s, (notBusy s → exec i s = .next (hashed v s) ∧ (hashed v s).busy = true) ∧
    (inBusyPhase s → exec i s = .next (rejected 2 0x004 c s))

/-- The byte ranges of two addresses differ: `b` is none of the four bytes at `a`. -/
def outsideWord (a b : Nat) : Prop := b < a ∨ a + 4 ≤ b

/-- An access the port does not perform (20_memory.md R86, R87). -/
def badAccess (off size : Nat) : Prop := size ≠ 4 ∨ off % 4 ≠ 0 ∨ 0x1000 + Config.MSG_CAP ≤ off

/-- An aligned 4-byte access inside the window (20_memory.md R85 to R87). -/
def goodOffset (off : Nat) : Prop := off % 4 = 0 ∧ off < 0x1000 + Config.MSG_CAP

/-- The offsets of read-only registers and of reserved locations (10_state.md R63, R64). -/
def readOnlyOrReserved (off : Nat) : Prop :=
  off = 0x000 ∨ off = 0x008 ∨ (0x018 ≤ off ∧ off < 0x1000)

/-- The state the host's line leaves the engine in before its access acts: the line taken, the port's answer given. -/
def answered (rest : List HostLine) (r : Response) (s : State) : State :=
  { s with host := rest, response := some r }

/-- A completed access without data. -/
def okResponse : Response := { busError := false, data := none }

/-- The working state as words of the variant's width. -/
def workingWord (s : State) (i : Fin 8) : BitVec s.VAR.w := narrow s.VAR.family s.S[i]

/-- `T1` of 44_compressor.md R216. -/
def t1 (s : State) : BitVec s.VAR.w :=
  workingWord s 7 + bigSigma1 s.VAR.family (workingWord s 4) +
    ch (workingWord s 4) (workingWord s 5) (workingWord s 6) +
    roundConstant s.VAR s.J.toNat + scheduleWord s.VAR.family s.W s.J.toNat

/-- `T2` of 44_compressor.md R216. -/
def t2 (s : State) : BitVec s.VAR.w :=
  bigSigma0 s.VAR.family (workingWord s 0) + maj (workingWord s 0) (workingWord s 1) (workingWord s 2)

/-- The data of a read line: the location's value, and 0 with a bus error (20_memory.md R90). That the line uses this 0 is the
model's choice (log 15). -/
def readData (s : State) (off : Nat) : Word32 := if off % 4 = 0 ∧ off < 0x1000 + Config.MSG_CAP then hostRead s off else 0

/-- The port's answer to a 4-byte read (20_memory.md R86, R87, R90). -/
def readAnswer (s : State) (off : Nat) : Response :=
  { busError := !decide (off % 4 = 0 ∧ off < 0x1000 + Config.MSG_CAP), data := some (readData s off) }

/-- `K_256[0..63]` as 46_variant_config.md R251 writes it. -/
def specK256 : List Word32 :=
  [0x428A_2F98, 0x7137_4491, 0xB5C0_FBCF, 0xE9B5_DBA5, 0x3956_C25B, 0x59F1_11F1, 0x923F_82A4, 0xAB1C_5ED5,
    0xD807_AA98, 0x1283_5B01, 0x2431_85BE, 0x550C_7DC3, 0x72BE_5D74, 0x80DE_B1FE, 0x9BDC_06A7, 0xC19B_F174] ++
  [0xE49B_69C1, 0xEFBE_4786, 0x0FC1_9DC6, 0x240C_A1CC, 0x2DE9_2C6F, 0x4A74_84AA, 0x5CB0_A9DC, 0x76F9_88DA,
    0x983E_5152, 0xA831_C66D, 0xB003_27C8, 0xBF59_7FC7, 0xC6E0_0BF3, 0xD5A7_9147, 0x06CA_6351, 0x1429_2967] ++
  [0x27B7_0A85, 0x2E1B_2138, 0x4D2C_6DFC, 0x5338_0D13, 0x650A_7354, 0x766A_0ABB, 0x81C2_C92E, 0x9272_2C85,
    0xA2BF_E8A1, 0xA81A_664B, 0xC24B_8B70, 0xC76C_51A3, 0xD192_E819, 0xD699_0624, 0xF40E_3585, 0x106A_A070] ++
  [0x19A4_C116, 0x1E37_6C08, 0x2748_774C, 0x34B0_BCB5, 0x391C_0CB3, 0x4ED8_AA4A, 0x5B9C_CA4F, 0x682E_6FF3,
    0x748F_82EE, 0x78A5_636F, 0x84C8_7814, 0x8CC7_0208, 0x90BE_FFFA, 0xA450_6CEB, 0xBEF9_A3F7, 0xC671_78F2]

/-- `K_512[0..79]` as 46_variant_config.md R251 writes it. -/
def specK512 : List Word64 :=
  [0x428A_2F98_D728_AE22, 0x7137_4491_23EF_65CD, 0xB5C0_FBCF_EC4D_3B2F, 0xE9B5_DBA5_8189_DBBC,
    0x3956_C25B_F348_B538, 0x59F1_11F1_B605_D019, 0x923F_82A4_AF19_4F9B, 0xAB1C_5ED5_DA6D_8118,
    0xD807_AA98_A303_0242, 0x1283_5B01_4570_6FBE, 0x2431_85BE_4EE4_B28C, 0x550C_7DC3_D5FF_B4E2,
    0x72BE_5D74_F27B_896F, 0x80DE_B1FE_3B16_96B1, 0x9BDC_06A7_25C7_1235, 0xC19B_F174_CF69_2694] ++
  [0xE49B_69C1_9EF1_4AD2, 0xEFBE_4786_384F_25E3, 0x0FC1_9DC6_8B8C_D5B5, 0x240C_A1CC_77AC_9C65,
    0x2DE9_2C6F_592B_0275, 0x4A74_84AA_6EA6_E483, 0x5CB0_A9DC_BD41_FBD4, 0x76F9_88DA_8311_53B5,
    0x983E_5152_EE66_DFAB, 0xA831_C66D_2DB4_3210, 0xB003_27C8_98FB_213F, 0xBF59_7FC7_BEEF_0EE4,
    0xC6E0_0BF3_3DA8_8FC2, 0xD5A7_9147_930A_A725, 0x06CA_6351_E003_826F, 0x1429_2967_0A0E_6E70] ++
  [0x27B7_0A85_46D2_2FFC, 0x2E1B_2138_5C26_C926, 0x4D2C_6DFC_5AC4_2AED, 0x5338_0D13_9D95_B3DF,
    0x650A_7354_8BAF_63DE, 0x766A_0ABB_3C77_B2A8, 0x81C2_C92E_47ED_AEE6, 0x9272_2C85_1482_353B,
    0xA2BF_E8A1_4CF1_0364, 0xA81A_664B_BC42_3001, 0xC24B_8B70_D0F8_9791, 0xC76C_51A3_0654_BE30,
    0xD192_E819_D6EF_5218, 0xD699_0624_5565_A910, 0xF40E_3585_5771_202A, 0x106A_A070_32BB_D1B8] ++
  [0x19A4_C116_B8D2_D0C8, 0x1E37_6C08_5141_AB53, 0x2748_774C_DF8E_EB99, 0x34B0_BCB5_E19B_48A8,
    0x391C_0CB3_C5C9_5A63, 0x4ED8_AA4A_E341_8ACB, 0x5B9C_CA4F_7763_E373, 0x682E_6FF3_D6B2_B8A3,
    0x748F_82EE_5DEF_B2FC, 0x78A5_636F_4317_2F60, 0x84C8_7814_A1F0_AB72, 0x8CC7_0208_1A64_39EC,
    0x90BE_FFFA_2363_1E28, 0xA450_6CEB_DE82_BDE9, 0xBEF9_A3F7_B2C6_7915, 0xC671_78F2_E372_532B] ++
  [0xCA27_3ECE_EA26_619C, 0xD186_B8C7_21C0_C207, 0xEADA_7DD6_CDE0_EB1E, 0xF57D_4F7F_EE6E_D178,
    0x06F0_67AA_7217_6FBA, 0x0A63_7DC5_A2C8_98A6, 0x113F_9804_BEF9_0DAE, 0x1B71_0B35_131C_471B,
    0x28DB_77F5_2304_7D84, 0x32CA_AB7B_40C7_2493, 0x3C9E_BE0A_15C9_BEBC, 0x431D_67C4_9C10_0D4C,
    0x4CC5_D4BE_CB3E_42B6, 0x597F_299C_FC65_7E2A, 0x5FCB_6FAB_3AD6_FAEC, 0x6C44_198C_4A47_5817]

end Sys2Proof.Claims

open Sys2Proof.Claims

/-! ## Encoding (30_encoding.md) -/

/-- Words written out from the opcode map decode to their commands, and words with one wrong field are reserved
(30_encoding.md R116, 40_commands.md R139). A sanity statement. Which reason the decoder names for a reserved word is the
model's choice (log 14). -/
def Obligations.SampleWordsDecode : Prop :=
  decode 0x0000_0000 = .ok .nop ∧ decode 0x0000_0001 = .ok .hash256 ∧ decode 0x0000_0101 = .ok .hash384 ∧
  decode 0x0000_0201 = .ok .hash512 ∧ decode 0x0000_0002 = .ok .abort ∧ decode 0x0000_0003 = .ok .clear ∧
  decode 0x0000_0301 = .error .variantReserved ∧ decode 0x0000_0100 = .error .varNotZero ∧
  decode 0x8000_0001 = .error .rsvNotZero ∧ decode 0x0000_0004 = .error .opReserved

/-- The complete opcode map: each row is selected by exactly its word, with the row's fields, and every other word is
reserved (30_encoding.md R116). -/
def Obligations.OpcodeMapIsComplete : Prop :=
  (∀ c : Word32,
    (decode c = .ok .nop ↔ c = 0x0000_0000) ∧ (decode c = .ok .hash256 ↔ c = 0x0000_0001) ∧
    (decode c = .ok .hash384 ↔ c = 0x0000_0101) ∧ (decode c = .ok .hash512 ↔ c = 0x0000_0201) ∧
    (decode c = .ok .abort ↔ c = 0x0000_0002) ∧ (decode c = .ok .clear ↔ c = 0x0000_0003) ∧
    ((∃ e, decode c = .error e) ↔
      c ∉ [0x0000_0000, 0x0000_0001, 0x0000_0101, 0x0000_0201, 0x0000_0002, 0x0000_0003])) ∧
  (commandFields 0x0000_0000).op = 0x00 ∧ (commandFields 0x0000_0000).var = 0 ∧
  (commandFields 0x0000_0001).op = 0x01 ∧ (commandFields 0x0000_0001).var = 0 ∧
  (commandFields 0x0000_0101).op = 0x01 ∧ (commandFields 0x0000_0101).var = 1 ∧
  (commandFields 0x0000_0201).op = 0x01 ∧ (commandFields 0x0000_0201).var = 2 ∧
  (commandFields 0x0000_0002).op = 0x02 ∧ (commandFields 0x0000_0002).var = 0 ∧
  (commandFields 0x0000_0003).op = 0x03 ∧ (commandFields 0x0000_0003).var = 0

/-- Decode and encode agree: an instruction's word decodes to it, a word that decodes is the word of its instruction, a
word decodes exactly when its fields are well-formed, and no word is dropped bits of (30_encoding.md R111 to R114). -/
def Obligations.DecodeAndEncodeAgree : Prop :=
  (∀ i : Instr, i.wf = true → decode (encode i) = .ok i) ∧
  (∀ (c : Word32) (i : Instr), decode c = .ok i → c = encode i) ∧
  (∀ c : Word32, (∃ i, decode c = .ok i) ↔ (commandFields c).wf = true) ∧
  (∀ c : Word32, assemble (commandFields c) = c)

/-! ## A step (20_memory.md R95) -/

/-- A step is the action of the agent whose turn is next (20_memory.md R95). That the coming turns are data in State is the
model's choice (log 1). -/
def Obligations.StepIsTheNextTurnsAction : Prop :=
  ∀ s : State,
    (nextTurn s = .host → step s = hostTurn (takeTurn s)) ∧
    (nextTurn s = .engine → step s = engineTurn (takeTurn s)) ∧
    (nextTurn s = .reset → step s = .next (resetEvent (takeTurn s)))

/-- A host turn whose line writes a command's word to `CMD`, in either form of a write, runs that command, on the state with
the turn and the line taken and the port's answer given, and nothing else around it (20_memory.md R91, 40_commands.md R130).
`withFetchWord` places such a line; the placing is the model's choice (log 11), and so is the cut of a data operand to 32 bits in
`writesCommand` (log 20). -/
def Obligations.StepRunsTheDecodedCommand : Prop :=
  (∀ (s : State) (c : Word32) (rest : List HostLine) (i : Instr),
    nextTurn s = .host → writesCommand s c rest → decode c = .ok i →
    step s = exec i (answered rest okResponse (takeTurn s))) ∧
  (∀ (s : State) (w : Nat) (i : Instr), decodeTableWord 32 w = some i →
    step (s.withFetchWord 32 w) = exec i (answered s.host okResponse s))

/-- Every reserved command word, in every phase, is rejected with cause 1 and has no other effect (40_commands.md R139). That a
data operand is cut to 32 bits in `writesCommand` is the model's choice (log 20). -/
def Obligations.ReservedWordIsRejected : Prop :=
  (∀ (c : Word32) (s : State) (e : Reserved), decode c = .error e →
    execute c s = .next (rejected 1 0x004 c s)) ∧
  (∀ (s : State) (c : Word32) (rest : List HostLine) (e : Reserved),
    nextTurn s = .host → writesCommand s c rest → decode c = .error e →
    step s = .next (rejected 1 0x004 c (answered rest okResponse (takeTurn s)))) ∧
  (∀ c ∈ ([0x0000_0301, 0x0000_0100, 0x8000_0001] : List Word32), ∃ e, decode c = .error e)

/-! ## Commands (40_commands.md) -/

/-- NOP changes no state in any phase (R131). -/
def Obligations.NopChangesNothing : Prop :=
  decode 0x0000_0000 = .ok .nop ∧ ∀ s : State, exec .nop s = .next s

/-- HASH.256, HASH.384 and HASH.512 (R133): where legal, the computation is cleared, the variant set and `PRE` entered, and
every other register, the message and the rejection record keep their values; while busy, rejected with cause 2. -/
def Obligations.HashStartsOneComputation : Prop :=
  hashRule .hash256 0x0000_0001 .v256 ∧ hashRule .hash384 0x0000_0101 .v384 ∧ hashRule .hash512 0x0000_0201 .v512

/-- ABORT (R135): in every phase, everything but the message, its length and the interrupt enables takes its reset
value. -/
def Obligations.AbortReturnsToResetValues : Prop :=
  decode 0x0000_0002 = .ok .abort ∧
  ∀ s : State, exec .abort s = .next
    { s with
      PHASE := .idle
      VAR := .v256
      DONE := false
      ERR := false
      ERRCODE := .none
      REJ := false
      REJ_CAUSE := 0
      REJ_ADDR := 0
      REJ_DATA := 0
      H := Vector.replicate 8 0
      S := Vector.replicate 8 0
      W := Vector.replicate 80 0
      M := Vector.replicate 16 0
      DIGEST := Vector.replicate 128 0
      NBLK := 0
      BLK := 0
      J := 0 }

/-- CLEAR (R137): where legal, it enters `IDLE` and clears the flags and the rejection record, and keeps the result; while
busy, rejected with cause 2. -/
def Obligations.ClearKeepsTheResult : Prop :=
  decode 0x0000_0003 = .ok .clear ∧
  ∀ s : State,
    (notBusy s → exec .clear s = .next
      { s with
        PHASE := .idle
        DONE := false
        ERR := false
        ERRCODE := .none
        REJ := false
        REJ_CAUSE := 0
        REJ_ADDR := 0
        REJ_DATA := 0 }) ∧
    (inBusyPhase s → exec .clear s = .next (rejected 2 0x004 0x0000_0003 s))

/-- The frame of every command: the message length, the interrupt enables, every byte of the message buffer and the
coming lines and turns are unchanged; and what HASH does not write of the rejection record, and NOP and CLEAR of the
datapath, the counters and the digest. -/
def Obligations.CommandFrames : Prop :=
  ∀ (i : Instr) (s t : State), exec i s = .next t →
    (t.MSG_LEN = s.MSG_LEN ∧ t.IRQ_EN = s.IRQ_EN ∧ (∀ a, msgByte t a = msgByte s a) ∧
      t.host = s.host ∧ t.turns = s.turns ∧ t.names = s.names ∧ t.response = s.response ∧ t.BASE = s.BASE) ∧
    ((i = .nop ∨ i = .clear) →
      t.H = s.H ∧ t.S = s.S ∧ t.W = s.W ∧ t.M = s.M ∧ t.DIGEST = s.DIGEST ∧ t.NBLK = s.NBLK ∧ t.BLK = s.BLK ∧
      t.J = s.J ∧ t.VAR = s.VAR) ∧
    ((i = .hash256 ∨ i = .hash384 ∨ i = .hash512) → notBusy s →
      t.REJ = s.REJ ∧ t.REJ_CAUSE = s.REJ_CAUSE ∧ t.REJ_ADDR = s.REJ_ADDR ∧ t.REJ_DATA = s.REJ_DATA)

/-- `reject` (60_exceptions.md R276): the first rejection is kept, and nothing else changes. That `REJ_ADDR` takes the low 32
bits of an offset of 2^32 or more, which no access in the window has, is the model's (log 18). -/
def Obligations.FirstRejectionIsKept : Prop :=
  ∀ (cause : Word32) (off : Nat) (data : Word32) (s : State),
    reject cause off data s = rejected cause off data s ∧
    (∀ (cause' : Word32) (off' : Nat) (data' : Word32),
      reject cause' off' data' (reject cause off data s) = reject cause off data s)

/-! ## Word operators (41_word_ops.md) -/

/-- Modular addition (R160): the exact sum modulo 2^w; and, an inference the spec marks as its own ("has the same value in every
order of evaluation"), commutative and associative. -/
def Obligations.AdditionWraps : Prop :=
  (∀ (w : Nat) (a b : BitVec w), (addW a b).toNat = (a.toNat + b.toNat) % 2 ^ w) ∧
  (∀ (w : Nat) (a b c : BitVec w), addW a b = addW b a ∧ addW (addW a b) c = addW a (addW b c)) ∧
  addW (0xFFFF_FFFF : BitVec 32) 0x0000_0001 = 0x0000_0000 ∧
  addW (0xFFFF_FFFF : BitVec 32) 0xFFFF_FFFF = 0xFFFF_FFFE

/-- Rotation right and logical shift right (R162, R163), on numbers and on bits. -/
def Obligations.RotateAndShiftRight : Prop :=
  (∀ (w r : Nat) (x : BitVec w), 0 < r → r < w →
    (rotr x r).toNat = (x.toNat / 2 ^ r) ||| ((x.toNat * 2 ^ (w - r)) % 2 ^ w)) ∧
  (∀ (w r i : Nat) (x : BitVec w), 0 < r → r < w → i < w →
    (rotr x r).getLsbD i = x.getLsbD ((i + r) % w)) ∧
  (∀ (w r : Nat), 0 < r → r < w →
    rotr (0 : BitVec w) r = 0 ∧ rotr (BitVec.allOnes w) r = BitVec.allOnes w) ∧
  (∀ (w s : Nat) (x : BitVec w), 0 < s → s < w → (shr x s).toNat = x.toNat / 2 ^ s) ∧
  rotr (0x0000_0001 : BitVec 32) 1 = 0x8000_0000 ∧
  rotr (0x0123_4567_89AB_CDEF : BitVec 64) 1 = 0x8091_A2B3_C4D5_E6F7 ∧
  shr (0x8000_0000 : BitVec 32) 3 = 0x1000_0000

/-- The complement at an explicit width, and Choose (R161 for `not_w`, R164). The all-ones, all-zeros and `or` forms are
inferences the spec marks as its own. -/
def Obligations.ChooseSelectsByBit : Prop :=
  (∀ (w : Nat) (x : BitVec w), (notW x).toNat = (2 ^ w - 1) - x.toNat) ∧
  (∀ (w i : Nat) (x y z : BitVec w), i < w →
    (ch x y z).getLsbD i = if x.getLsbD i then y.getLsbD i else z.getLsbD i) ∧
  (∀ (w : Nat) (y z : BitVec w), ch (BitVec.allOnes w) y z = y ∧ ch 0 y z = z) ∧
  (∀ (w : Nat) (x y z : BitVec w), ch x y z = (x &&& y) ^^^ (notW x &&& z)) ∧
  (∀ (w : Nat) (x y z : BitVec w), ch x y z = (x &&& y) ||| (notW x &&& z)) ∧
  ch (0xFF00_FF00 : BitVec 32) 0x1234_5678 0x9ABC_DEF0 = 0x12BC_56F0 ∧
  ch (0xFFFF_FFFF_0000_0000 : BitVec 64) 0x0123_4567_89AB_CDEF 0xFEDC_BA98_7654_3210 = 0x0123_4567_7654_3210

/-- Majority (R165). That `Maj(x, x, z) = x` and `Maj(x, y, y) = y` are inferences the spec marks as its own. -/
def Obligations.MajorityOfThreeBits : Prop :=
  (∀ (w : Nat) (x y z : BitVec w), maj x y z = (x &&& y) ^^^ (x &&& z) ^^^ (y &&& z)) ∧
  (∀ (w i : Nat) (x y z : BitVec w), i < w →
    ((maj x y z).getLsbD i = true ↔
      2 ≤ (x.getLsbD i).toNat + (y.getLsbD i).toNat + (z.getLsbD i).toNat)) ∧
  (∀ (w : Nat) (x y z : BitVec w), maj x x z = x ∧ maj x y y = y) ∧
  maj (0xFF00_FF00 : BitVec 32) 0x1234_5678 0x9ABC_DEF0 = 0x9A34_DE70 ∧
  maj (0xFFFF_FFFF_0000_0000 : BitVec 64) 0x0123_4567_89AB_CDEF 0xFEDC_BA98_7654_3210 = 0xFFFF_FFFF_0000_0000

/-- The big and small sigma functions with each family's constants (R166, R167), over the library's rotation. -/
def Obligations.SigmaFunctionsByFamily : Prop :=
  (∀ x : BitVec 32,
    bigSigma0 .f32 x = x.rotateRight 2 ^^^ x.rotateRight 13 ^^^ x.rotateRight 22 ∧
    bigSigma1 .f32 x = x.rotateRight 6 ^^^ x.rotateRight 11 ^^^ x.rotateRight 25 ∧
    smallSigma0 .f32 x = x.rotateRight 7 ^^^ x.rotateRight 18 ^^^ x >>> 3 ∧
    smallSigma1 .f32 x = x.rotateRight 17 ^^^ x.rotateRight 19 ^^^ x >>> 10) ∧
  (∀ x : BitVec 64,
    bigSigma0 .f64 x = x.rotateRight 28 ^^^ x.rotateRight 34 ^^^ x.rotateRight 39 ∧
    bigSigma1 .f64 x = x.rotateRight 14 ^^^ x.rotateRight 18 ^^^ x.rotateRight 41 ∧
    smallSigma0 .f64 x = x.rotateRight 1 ^^^ x.rotateRight 8 ^^^ x >>> 7 ∧
    smallSigma1 .f64 x = x.rotateRight 19 ^^^ x.rotateRight 61 ^^^ x >>> 6)

/-! ## Preprocessor (42_preprocessor.md) -/

/-- The padding rule (R182): `k` is the least number of zero bits that meets the congruence; and, inferences the spec marks as
its own, the padded message is whole blocks and `k mod 8 = 7`. -/
def Obligations.PaddingIsMinimal : Prop :=
  ∀ (v : Variant) (n : Nat),
    zeroBits v n < v.B ∧
    (8 * n + 1 + zeroBits v n) % v.B = (v.B - v.Lf) % v.B ∧
    (∀ k, (8 * n + 1 + k) % v.B = (v.B - v.Lf) % v.B → zeroBits v n ≤ k) ∧
    paddedBits v n = 8 * n + 1 + zeroBits v n + v.Lf ∧
    paddedBits v n % v.B = 0 ∧ zeroBits v n % 8 = 7

/-- The block count (R183): padded bits over block size, its closed forms, and at least one block (an inference the spec marks
as its own). -/
def Obligations.BlockCountClosedForm : Prop :=
  ∀ n : Nat,
    (∀ v : Variant, blockCount v n = (8 * n + 1 + zeroBits v n + v.Lf) / v.B ∧
      blockCount v n = (8 * n + 1 + v.Lf + (v.B - 1)) / v.B ∧ 1 ≤ blockCount v n) ∧
    blockCount .v256 n = (n + 9 + 63) / 64 ∧
    blockCount .v384 n = (n + 17 + 127) / 128 ∧
    blockCount .v512 n = (n + 17 + 127) / 128

/-- The block-count boundary (R188): the source's four values, and the general rule the spec derives from R183. -/
def Obligations.BlockCountBoundary : Prop :=
  (blockCount .v256 55 = 1 ∧ blockCount .v256 56 = 2 ∧ blockCount .v512 111 = 1 ∧ blockCount .v512 112 = 2) ∧
  ∀ (v : Variant) (n : Nat), 1 ≤ n →
    (n % (v.B / 8) = v.B / 8 - v.Lf / 8 → blockCount v n = blockCount v (n - 1) + 1) ∧
    (n % (v.B / 8) ≠ v.B / 8 - v.Lf / 8 → blockCount v n = blockCount v (n - 1)) ∧
    (v.B / 8 - v.Lf / 8 = match v with | .v256 => 56 | .v384 => 112 | .v512 => 112)

/-- The padded stream (R184): message bytes, 0x80, zeros, and the bit length big-endian in the last `Lf` bits, the whole
value when it fits (R190). That the 0x80 never meets the length field is an inference the spec marks as its own. -/
def Obligations.PaddedStreamLayout : Prop :=
  ∀ (v : Variant) (n : Nat) (mem : Nat → Byte),
    n < blockCount v n * (v.B / 8) - v.Lf / 8 ∧
    (∀ i, i < n → paddedByte v n mem i = mem i) ∧
    paddedByte v n mem n = 0x80 ∧
    (∀ i, n < i → i < blockCount v n * (v.B / 8) - v.Lf / 8 → paddedByte v n mem i = 0x00) ∧
    (8 * n < 2 ^ v.Lf →
      beNat ((List.range (v.Lf / 8)).map fun q =>
        paddedByte v n mem (blockCount v n * (v.B / 8) - v.Lf / 8 + q)) = 8 * n)

/-- The block parse (R187): word `t` of block `b` is the big-endian number of its padded bytes, with no bit lost, and the 16
words are the block's bytes (an inference the spec marks as its own).
The spec gives `block(b)` for `b < N`; that a block past the last one is parsed from `paddedByte` past its end is the model's
choice (log 19). -/
def Obligations.BlockParseIsBigEndian : Prop :=
  ∀ (v : Variant) (n : Nat) (mem : Nat → Byte) (b : Nat) (t : Fin 16),
    (block v n mem b)[t].toNat =
      ((List.range (v.w / 8)).map fun q =>
        (paddedByte v n mem (b * (v.B / 8) + t.val * (v.w / 8) + q)).toNat * 2 ^ (8 * (v.w / 8 - 1 - q))).sum ∧
    16 * (v.w / 8) = v.B / 8

/-- When the input checks fail (R185): `InputTooLarge` exactly for the 256 variant and lengths of 2^61 and more, which the spec
derives from R181. -/
def Obligations.InputChecks : Prop :=
  ∀ (v : Variant) (n : Nat), n < 2 ^ 64 →
    (inputTooLarge v n = true ↔ 2 ^ v.Lf ≤ 8 * n) ∧
    (inputTooLarge v n = true ↔ v = .v256 ∧ 2 ^ 61 ≤ n) ∧
    (invalidInput n = true ↔ Config.MSG_CAP < n)

/-- The PRE engine step (R186), with `raise Error` as 60_exceptions.md R272 writes it: `InputTooLarge` is checked first; a
failed check writes the three fields of the error and nothing else; otherwise the block count, the IV and the phase. -/
def Obligations.PreStepChecksThenLoadsIv : Prop :=
  ∀ s : State, s.PHASE = .pre →
    (2 ^ s.VAR.Lf ≤ 8 * s.MSG_LEN.toNat →
      engineTurn s = .next { s with ERR := true, ERRCODE := .inputTooLarge, PHASE := .error }) ∧
    (8 * s.MSG_LEN.toNat < 2 ^ s.VAR.Lf → Config.MSG_CAP < s.MSG_LEN.toNat →
      engineTurn s = .next { s with ERR := true, ERRCODE := .invalidInput, PHASE := .error }) ∧
    (8 * s.MSG_LEN.toNat < 2 ^ s.VAR.Lf → s.MSG_LEN.toNat ≤ Config.MSG_CAP →
      ∃ N : Word32, N.toNat = blockCount s.VAR s.MSG_LEN.toNat ∧
        engineTurn s = .next { s with NBLK := N, BLK := 0, H := initialValue s.VAR, PHASE := .sched })

/-- A computation that fails its checks (46_variant_config.md R259, 60_exceptions.md R272; what stays zero is an inference the
spec marks as its own): one engine step ends it in `ERROR`
with the code of the first failed check, the `H` and `DIGEST_HEX` windows and the progress registers read 0, and the message,
its length and the interrupt enables are kept. -/
def Obligations.FailedChecksLeaveNoOutput : Prop :=
  ∀ s : State, Inv s → s.PHASE = .pre →
    (2 ^ s.VAR.Lf ≤ 8 * s.MSG_LEN.toNat ∨ Config.MSG_CAP < s.MSG_LEN.toNat) →
    ∃ t, engineTurn s = .next t ∧ t.PHASE = .error ∧ t.ERR = true ∧ t.DONE = false ∧
      t.ERRCODE = (if 2 ^ s.VAR.Lf ≤ 8 * s.MSG_LEN.toNat then .inputTooLarge else .invalidInput) ∧
      (∀ i : Fin 8, hostRead t (0x100 + 8 * i.val) = 0 ∧ hostRead t (0x104 + 8 * i.val) = 0) ∧
      (∀ k : Fin 32, hostRead t (0x200 + 4 * k.val) = 0) ∧
      hostRead t 0x01C = 0 ∧ hostRead t 0x020 = 0 ∧ hostRead t 0x024 = 0 ∧
      t.MSG_LEN = s.MSG_LEN ∧ t.IRQ_EN = s.IRQ_EN ∧ (∀ a, msgByte t a = msgByte s a)

/-! ## Scheduler (43_scheduler.md) -/

/-- The schedule function (R200): `R(v)` words, the block's first, then the recurrence. -/
def Obligations.ScheduleRecurrence : Prop :=
  ∀ (v : Variant) (blk : Vector (BitVec v.w) 16),
    (schedule v blk).length = v.R ∧
    (∀ t : Fin 16, (schedule v blk).getD t 0 = blk[t]) ∧
    (∀ t, 16 ≤ t → t < v.R →
      (schedule v blk).getD t 0 =
        (schedule v blk).getD (t - 16) 0 + smallSigma0 v.family ((schedule v blk).getD (t - 15) 0) +
          (schedule v blk).getD (t - 7) 0 + smallSigma1 v.family ((schedule v blk).getD (t - 2) 0))

/-- The SCHED engine step (R201, R203): the block, its schedule and zeros after it, the copy of the accumulator, and
nothing else.
In states that no run reaches, with `BLK` at or past `N`, the block is the model's choice (log 19). -/
def Obligations.SchedStepLoadsOneBlock : Prop :=
  ∀ s : State, s.PHASE = .sched →
    ∃ (M : Vector Word64 16) (W : Vector Word64 80),
      engineTurn s = .next { s with M := M, W := W, S := s.H, J := 0, PHASE := .comp } ∧
      (∀ t : Fin 16, M[t] = (block s.VAR s.MSG_LEN.toNat (msgByte s) s.BLK.toNat)[t].setWidth 64) ∧
      (∀ t : Fin 80, t.val < s.VAR.R →
        W[t] = ((schedule s.VAR (block s.VAR s.MSG_LEN.toNat (msgByte s) s.BLK.toNat)).getD t 0).setWidth 64) ∧
      (∀ t : Fin 80, s.VAR.R ≤ t.val → W[t] = 0)

/-- An all-zero block gives an all-zero schedule (R202, an inference the spec marks as its own). -/
def Obligations.ZeroBlockHasZeroSchedule : Prop :=
  ∀ (v : Variant) (t : Nat), (schedule v (Vector.replicate 16 0)).getD t 0 = 0

/-- The engine reads no message byte at or past the length (20_memory.md R83): engines that agree on the bytes below it take
the same step, and neither step writes the buffer. -/
def Obligations.EngineReadsOnlyTheMessage : Prop :=
  ∀ (s : State) (m : Memory) (d : Nat),
    (∀ a, a < s.MSG_LEN.toNat → msgByte { s with MSG := m, draw := d } a = msgByte s a) →
    ∀ t, engineTurn s = .next t →
      engineTurn { s with MSG := m, draw := d } = .next { t with MSG := m, draw := d } ∧
      t.MSG = s.MSG ∧ t.draw = s.draw

/-! ## Compressor (44_compressor.md) -/

/-- The ROUND engine step (R216 to R218), with every right-hand side read before the step, and nothing else written. -/
def Obligations.RoundStepUpdatesWorkingState : Prop :=
  ∀ s : State, s.PHASE = .comp → s.J.toNat < s.VAR.R →
    engineTurn s = .next
      { s with
        S := #v[(t1 s + t2 s).setWidth 64, (workingWord s 0).setWidth 64, (workingWord s 1).setWidth 64,
          (workingWord s 2).setWidth 64, (workingWord s 3 + t1 s).setWidth 64, (workingWord s 4).setWidth 64,
          (workingWord s 5).setWidth 64, (workingWord s 6).setWidth 64]
        J := s.J + 1 }

/-- The FOLD engine step (R222): the accumulator takes the sum at the variant's width, the block index grows, and the
incremented index decides the phase.
In states that no run reaches, with `BLK + 1` above `NBLK`, what the phase becomes, and that `BLK` wraps at 32 bits, is log 8. -/
def Obligations.FoldStepAddsWorkingState : Prop :=
  ∀ s : State, s.PHASE = .comp → s.J.toNat = s.VAR.R →
    ∃ H : Vector Word64 8,
      (∀ i : Fin 8, H[i] = (narrow s.VAR.family s.H[i] + narrow s.VAR.family s.S[i]).setWidth 64) ∧
      engineTurn s = .next
        { s with H := H, BLK := s.BLK + 1, PHASE := if (s.BLK + 1).toNat < s.NBLK.toNat then .sched else .asm }

/-- One block's compression (R224, which the spec derives from R201, R218 and R222): SCHED, `R(v)` ROUND and one FOLD take the accumulator from `Hin` to
`Compress_v(Hin, block(b))`.
In states that no run reaches, with `BLK` at or past `N`, the block is the model's choice (log 19),
and the phase with `BLK + 1` above `NBLK` and the wrap of `BLK` at 32 bits are the model's too (log 8). -/
def Obligations.OneBlockIsOneCompression : Prop :=
  ∀ (s : State) (rest : List Turn), s.PHASE = .sched → s.turns = List.replicate (s.VAR.R + 2) .engine ++ rest →
    ∃ t, Host.Core.run core (s.VAR.R + 2) s = .next t ∧
      t.H = widenAll s.VAR.family (compress s.VAR (narrowAll s.VAR.family s.H)
        (block s.VAR s.MSG_LEN.toNat (msgByte s) s.BLK.toNat)) ∧
      t.BLK = s.BLK + 1 ∧ t.NBLK = s.NBLK ∧ t.VAR = s.VAR ∧ t.MSG_LEN = s.MSG_LEN ∧
      (∀ a, msgByte t a = msgByte s a) ∧
      t.PHASE = (if (s.BLK + 1).toNat < s.NBLK.toNat then .sched else .asm)

/-! ## Digest assembler (45_digest.md) -/

/-- The digest string (R235 to R237, R239): character `q` of word `i` is the ASCII code of its nibble, most significant
first, for the first `OW(v)` words, and every byte after the `OW(v) * w(v) / 4` characters is 0x00. -/
def Obligations.DigestCharacters : Prop :=
  (∀ (v : Variant) (H : Vector Word64 8),
    (∀ (i : Fin 8) (q : Nat) (k : Fin 128), i.val < v.OW → q < v.w / 4 → k.val = i.val * (v.w / 4) + q →
      (digestFile v H)[k] = hexDigit ((narrow v.family H[i]).extractLsb' (4 * (v.w / 4 - 1 - q)) 4)) ∧
    (∀ k : Fin 128, v.OW * (v.w / 4) ≤ k.val → (digestFile v H)[k] = 0x00) ∧
    (digestString v H).length = v.OW * (v.w / 4)) ∧
  (∀ x : BitVec 4,
    (x.toNat < 10 → (hexDigit x).toNat = 0x30 + x.toNat) ∧
    (10 ≤ x.toNat → (hexDigit x).toNat = 0x61 + (x.toNat - 10)))

/-- The ASM engine step (R238): the digest and the zeros after it, `DONE`, the phase, and nothing else. -/
def Obligations.AsmStepWritesTheDigest : Prop :=
  ∀ s : State, s.PHASE = .asm →
    ∃ D : Vector Byte 128,
      engineTurn s = .next { s with DIGEST := D, DONE := true, PHASE := .done } ∧
      (∀ k : Fin 128, k.val < (digestString s.VAR s.H).length → D[k] = (digestString s.VAR s.H).getD k 0) ∧
      (∀ k : Fin 128, (digestString s.VAR s.H).length ≤ k.val → D[k] = 0x00) ∧
      (digestString s.VAR s.H).length = s.VAR.OW * s.VAR.w / 4

/-! ## Constant tables (46_variant_config.md) -/

/-- The round constants (R251) and the initial values (R252 to R254), every one as the spec writes it, and the relations
between the tables that the spec states or derives (R251, R253, R254). -/
def Obligations.ConstantTables : Prop :=
  (List.range 64).map (roundConstant .v256) = specK256 ∧
  (List.range 80).map (roundConstant .v512) = specK512 ∧
  (List.range 80).map (roundConstant .v384) = specK512 ∧
  (initialValue .v256).toList = [0x6A09_E667, 0xBB67_AE85, 0x3C6E_F372, 0xA54F_F53A, 0x510E_527F, 0x9B05_688C, 0x1F83_D9AB,
    0x5BE0_CD19] ∧
  (initialValue .v384).toList = [0xCBBB_9D5D_C105_9ED8, 0x629A_292A_367C_D507, 0x9159_015A_3070_DD17,
    0x152F_ECD8_F70E_5939, 0x6733_2667_FFC0_0B31, 0x8EB4_4A87_6858_1511, 0xDB0C_2E0D_64F9_8FA7, 0x47B5_481D_BEFA_4FA4] ∧
  (initialValue .v512).toList = [0x6A09_E667_F3BC_C908, 0xBB67_AE85_84CA_A73B, 0x3C6E_F372_FE94_F82B,
    0xA54F_F53A_5F1D_36F1, 0x510E_527F_ADE6_82D1, 0x9B05_688C_2B3E_6C1F, 0x1F83_D9AB_FB41_BD6B, 0x5BE0_CD19_137E_2179] ∧
  (∀ j : Fin 64, (roundConstant .v512 j.val).extractLsb' 32 32 = roundConstant .v256 j.val) ∧
  (∀ i : Fin 8, (initialValue .v512)[i].extractLsb' 32 32 = (initialValue .v256)[i].extractLsb' 0 32 ∧
    (initialValue .v384)[i] ≠ (initialValue .v512)[i])

/-! ## Engine sequencing (46_variant_config.md) -/

/-- The step relation (R256): in each phase of a reachable state the one enabled step leads to the table's next phase, and in
`IDLE`, `DONE` and `ERROR` no step is enabled. -/
def Obligations.EngineStepRelation : Prop :=
  ∀ s : State, Inv s →
    (s.PHASE = .idle ∨ s.PHASE = .done ∨ s.PHASE = .error → engineTurn s = .next s) ∧
    (s.PHASE = .pre → engineTurn s = .next (stepPre s) ∧
      (stepPre s).PHASE =
        (if inputTooLarge s.VAR (messageLength s) = true ∨ invalidInput (messageLength s) = true then .error
         else .sched)) ∧
    (s.PHASE = .sched → engineTurn s = .next (stepSched s) ∧ (stepSched s).PHASE = .comp) ∧
    (s.PHASE = .comp → s.J.toNat < s.VAR.R → engineTurn s = .next (stepRound s) ∧ (stepRound s).PHASE = .comp) ∧
    (s.PHASE = .comp → s.J.toNat = s.VAR.R → engineTurn s = .next (stepFold s) ∧
      (s.BLK.toNat + 1 < s.NBLK.toNat → (stepFold s).PHASE = .sched) ∧
      (s.BLK.toNat + 1 = s.NBLK.toNat → (stepFold s).PHASE = .asm) ∧
      s.BLK.toNat + 1 ≤ s.NBLK.toNat) ∧
    (s.PHASE = .comp → s.J.toNat ≤ s.VAR.R) ∧
    (s.PHASE = .asm → engineTurn s = .next (stepAsm s) ∧ (stepAsm s).PHASE = .done)

/-- The step count and progress. The count (R257, which the spec derives from R256): HASH leaves `2 + N(R+2)` engine steps when
the checks pass and one when they fail, and each engine step of a busy engine takes one away until the engine is in `DONE` or
`ERROR`. Progress (R258): in every interleaving the engine's turn comes, and a busy engine that is neither aborted nor reset
ends in `DONE` or `ERROR` after exactly the engine turns left. How the model draws a weakly fair interleaving is log 12. -/
def Obligations.EngineStepsCountDown : Prop :=
  (∀ s : State, s.PHASE = .pre →
    stepsLeft s =
      if 2 ^ s.VAR.Lf ≤ 8 * s.MSG_LEN.toNat ∨ Config.MSG_CAP < s.MSG_LEN.toNat then 1
      else 2 + blockCount s.VAR s.MSG_LEN.toNat * (s.VAR.R + 2)) ∧
  (∀ s t : State, Inv s → s.busy = true → engineTurn s = .next t → stepsLeft t + 1 = stepsLeft s) ∧
  (∀ s : State, Inv s → (stepsLeft s = 0 ↔ s.busy = false)) ∧
  (∀ s : State, Inv s → ∃ k t, Host.Core.run core k s = .next t ∧ nextTurn t = .engine) ∧
  (∀ s : State, Inv s → s.busy = true → ∃ k t, Host.Core.run core k s = .next t ∧
    (∀ j u, j < k → Host.Core.run core j s = .next u → u.busy = true ∧ nextTurn u ≠ .reset ∧ ¬ abortsNext u) ∧
    (((t.PHASE = .done ∨ t.PHASE = .error) ∧ engineTurns k s = stepsLeft s) ∨ nextTurn t = .reset ∨ abortsNext t))

/-- Purity (R260, which the spec derives from R256 and R140; 10_state.md R65): while the engine is busy, no host turn but an
ABORT changes anything a computation reads or writes. -/
def Obligations.HostCannotDisturbAComputation : Prop :=
  ∀ s : State, s.busy = true → (∀ c rest, writesCommand s c rest → decode c ≠ .ok .abort) →
    ∃ t, hostTurn s = .next t ∧
      t = { s with REJ := t.REJ, REJ_CAUSE := t.REJ_CAUSE, REJ_ADDR := t.REJ_ADDR, REJ_DATA := t.REJ_DATA,
                   IRQ_EN := t.IRQ_EN, host := t.host, names := t.names, response := t.response }

/-- The end-to-end result and the step count of a computation that passes its checks (R257, R259, R260, inferences the spec
marks as its own), over every
interleaving: from the state after HASH, whatever host turns without ABORT fall between `2 + N(R+2)` engine turns, the
last of them ends in `DONE` with the accumulator and the digest of the message. -/
def Obligations.EveryInterleavingGivesTheDigest : Prop :=
  ∀ (s : State) (ts rest : List Turn),
    s.PHASE = .pre → 8 * s.MSG_LEN.toNat < 2 ^ s.VAR.Lf → s.MSG_LEN.toNat ≤ Config.MSG_CAP →
    s.turns = ts ++ .engine :: rest → .reset ∉ ts →
    ts.count .engine + 1 = 2 + blockCount s.VAR s.MSG_LEN.toNat * (s.VAR.R + 2) →
    (∀ j u, j < ts.length → Host.Core.run core j s = .next u → ¬ abortsNext u) →
    ∃ t, Host.Core.run core (ts.length + 1) s = .next t ∧
      t.PHASE = .done ∧ t.DONE = true ∧
      t.H = hashFinal s.VAR s.MSG_LEN.toNat (msgByte s) ∧
      t.DIGEST = digestFile s.VAR (hashFinal s.VAR s.MSG_LEN.toNat (msgByte s)) ∧
      t.BLK = t.NBLK ∧ t.VAR = s.VAR ∧ t.MSG_LEN = s.MSG_LEN ∧ (∀ a, msgByte t a = msgByte s a) ∧ t.turns = rest

/-- The engine's registers keep computing the pure functions of R224 and R259, over every step of every agent: so the step
that enters `DONE` finds `Hfinal_v(m)` in the accumulator. -/
def Obligations.StepsComputeTheHash : Prop :=
  (∀ s t : State, Inv s → Computes s → step s = .next t → Computes t) ∧
  (∀ s t : State, Inv s → Computes s → step s = .next t → t.PHASE = .done → s.PHASE ≠ .done →
    t.H = hashFinal t.VAR (messageLength t) (msgByte t) ∧
    t.DIGEST = digestFile t.VAR (hashFinal t.VAR (messageLength t) (msgByte t)))

/-! ## Host port and registers (20_memory.md, 10_state.md) -/

/-- What every register of the map reads (10_state.md R52 to R63), and every word of the `MSG` window (20_memory.md R82). The
fields of `STATUS` are the next statement.
At a misaligned reserved offset, where the port performs no access, the 0 is the model's choice (log 19). -/
def Obligations.RegisterWindowReads : Prop :=
  ∀ s : State,
    hostRead s 0x000 = 0x5348_4132 ∧ hostRead s 0x004 = 0 ∧ hostRead s 0x008 = statusWord s ∧
    hostRead s 0x00C = s.IRQ_EN.setWidth 32 ∧
    hostRead s 0x010 = s.MSG_LEN.extractLsb' 0 32 ∧ hostRead s 0x014 = s.MSG_LEN.extractLsb' 32 32 ∧
    (hostRead s 0x018).toNat = Config.MSG_CAP ∧
    hostRead s 0x01C = s.NBLK ∧ hostRead s 0x020 = s.BLK ∧ hostRead s 0x024 = s.J ∧
    hostRead s 0x028 = s.REJ_CAUSE ∧ hostRead s 0x02C = s.REJ_ADDR ∧ hostRead s 0x030 = s.REJ_DATA ∧
    (∀ i : Fin 8, hostRead s (0x100 + 8 * i.val) = s.H[i].extractLsb' 0 32 ∧
      hostRead s (0x104 + 8 * i.val) = s.H[i].extractLsb' 32 32) ∧
    (∀ k : Fin 32, hostRead s (0x200 + 4 * k.val) =
      s.DIGEST[4 * k.val + 3] ++ s.DIGEST[4 * k.val + 2] ++ s.DIGEST[4 * k.val + 1] ++ s.DIGEST[4 * k.val]) ∧
    (∀ off, (0x034 ≤ off ∧ off < 0x100) ∨ (0x140 ≤ off ∧ off < 0x200) ∨ (0x280 ≤ off ∧ off < 0x1000) →
      hostRead s off = 0) ∧
    (∀ a, a % 4 = 0 → a < Config.MSG_CAP →
      hostRead s (0x1000 + a) = msgByte s (a + 3) ++ msgByte s (a + 2) ++ msgByte s (a + 1) ++ msgByte s a)

/-- The fields of `STATUS` (10_state.md R55), with `BUSY` a function of `PHASE` (R40) and the codes of R40, R44 and R46. -/
def Obligations.StatusFields : Prop :=
  ∀ s : State, hostRead s 0x008 = statusWord s ∧
    ((statusWord s).extractLsb' 0 3).toNat =
      (match s.PHASE with
        | .idle => 0 | .pre => 1 | .sched => 2 | .comp => 3 | .asm => 4 | .done => 5 | .error => 6) ∧
    ((statusWord s).getLsbD 3 = true ↔ inBusyPhase s) ∧
    (statusWord s).getLsbD 4 = s.DONE ∧ (statusWord s).getLsbD 5 = s.ERR ∧ (statusWord s).getLsbD 6 = s.REJ ∧
    (statusWord s).getLsbD 7 = false ∧
    ((statusWord s).extractLsb' 8 3).toNat =
      (match s.ERRCODE with
        | .none => 0 | .invalidInput => 1 | .inputTooLarge => 2 | .internalInvariantViolation => 3) ∧
    (statusWord s).getLsbD 11 = false ∧
    ((statusWord s).extractLsb' 12 2).toNat = (match s.VAR with | .v256 => 0 | .v384 => 1 | .v512 => 2) ∧
    (statusWord s).extractLsb' 14 18 = 0

/-- A misaligned, wrongly sized or out-of-range access is not performed: the response is an error, a read's data is 0, and
the engine's state is unchanged (20_memory.md R86, R87, R90). -/
def Obligations.BadAccessIsABusError : Prop :=
  ∀ (off size : Nat) (s : State), badAccess off size →
    performAccess { kind := .read, off := off, size := size } s =
      .next { s with response := some { busError := true, data := some 0 } } ∧
    ∀ data, performAccess { kind := .write data, off := off, size := size } s =
      .next { s with response := some { busError := true, data := none } }

/-- A read inside the window returns the location's value and has no side effect, in every phase (20_memory.md R92). -/
def Obligations.ReadsHaveNoSideEffect : Prop :=
  ∀ (off : Nat) (s : State), goodOffset off →
    performAccess { kind := .read, off := off, size := 4 } s =
      .next { s with response := some { busError := false, data := some (hostRead s off) } }

/-- Locked locations (10_state.md R65): while busy, a write of `MSG_LEN_LO`, `MSG_LEN_HI` or the `MSG` window is rejected with
cause 3 and changes nothing else.
At an offset past the window or misaligned, where the port performs no access, what `hostWrite` does is the model's choice
(log 19), and `REJ_ADDR` takes the low 32 bits of the offset (log 18). -/
def Obligations.WritesAreLockedWhileBusy : Prop :=
  ∀ (off : Nat) (data : Word32) (s : State), inBusyPhase s → off = 0x010 ∨ off = 0x014 ∨ 0x1000 ≤ off →
    hostWrite off data s = .next (rejected 3 off data s)

/-- A write of the `MSG` window while not busy (20_memory.md R82): its four bytes, read back at the same offset, and no other
byte and no other register.
At an offset past the window or misaligned, where the port performs no access, what `hostWrite` and `hostRead` do is the
model's choice (log 19). -/
def Obligations.MessageWriteThenRead : Prop :=
  ∀ (a : Nat) (data : Word32) (s : State), notBusy s →
    ∃ m : Memory,
      hostWrite (0x1000 + a) data s = .next { s with MSG := m } ∧
      (∀ k, k < 4 → msgByte { s with MSG := m } (a + k) = data.extractLsb' (8 * k) 8) ∧
      (∀ b, outsideWord a b → msgByte { s with MSG := m } b = msgByte s b) ∧
      hostRead { s with MSG := m } (0x1000 + a) = data

/-- Writes of `IRQ_EN` in any phase and of the halves of `MSG_LEN` while not busy (10_state.md R56, R57). -/
def Obligations.RegisterWrites : Prop :=
  ∀ (data : Word32) (s : State),
    hostWrite 0x00C data s = .next { s with IRQ_EN := data.extractLsb' 0 3 } ∧
    hostRead { s with IRQ_EN := data.extractLsb' 0 3 } 0x00C = (data.extractLsb' 0 3).setWidth 32 ∧
    (notBusy s →
      (∃ n : BitVec 64, hostWrite 0x010 data s = .next { s with MSG_LEN := n } ∧
        n.extractLsb' 0 32 = data ∧ n.extractLsb' 32 32 = s.MSG_LEN.extractLsb' 32 32) ∧
      (∃ n : BitVec 64, hostWrite 0x014 data s = .next { s with MSG_LEN := n } ∧
        n.extractLsb' 32 32 = data ∧ n.extractLsb' 0 32 = s.MSG_LEN.extractLsb' 0 32))

/-- A write of a read-only register or of a reserved offset changes no state and is no rejection (10_state.md R63, R64). -/
def Obligations.ReadOnlyWritesAreIgnored : Prop :=
  ∀ (off : Nat) (data : Word32) (s : State), off % 4 = 0 → readOnlyOrReserved off → hostWrite off data s = .next s

/-- The interrupt output (60_exceptions.md R280), after each way of clearing a flag and after a write of the enables (R281). -/
def Obligations.InterruptIsALevelOfTheFlags : Prop :=
  (∀ s : State, irq s = true ↔
    (s.DONE = true ∧ s.IRQ_EN.getLsbD 0 = true) ∨ (s.ERR = true ∧ s.IRQ_EN.getLsbD 1 = true) ∨
      (s.REJ = true ∧ s.IRQ_EN.getLsbD 2 = true)) ∧
  (∀ s t : State, exec .abort s = .next t → irq t = false) ∧
  (∀ s t : State, notBusy s → exec .clear s = .next t → irq t = false) ∧
  (∀ (i : Instr) (s t : State), i = .hash256 ∨ i = .hash384 ∨ i = .hash512 → notBusy s → exec i s = .next t →
    irq t = (s.REJ && s.IRQ_EN.getLsbD 2)) ∧
  (∀ (data : Word32) (s t : State), hostWrite 0x00C data s = .next t →
    (irq t = true ↔
      (s.DONE = true ∧ data.getLsbD 0 = true) ∨ (s.ERR = true ∧ data.getLsbD 1 = true) ∨
        (s.REJ = true ∧ data.getLsbD 2 = true)))

/-! ## Host programs (30_encoding.md) -/

/-- One line of a host program makes one access, its operands evaluated in the state in which it is performed; `poll` and
`pollnz` stay until the value read meets their condition; `rd32` binds what it read, and an operand names it later
(30_encoding.md R118). The model's choices: one read a turn (log 2); what a read with a bus error binds (log 15); and what an
operand is worth beyond a number and a bound name, a sum being the exact sum and a data, mask or value operand being cut to the
32 bits a line carries (log 20). -/
def Obligations.HostLines : Prop :=
  (∀ (s : State) (off data : Operand) (rest : List HostLine), s.host = .wr32 off data :: rest →
    (goodOffset (operandValue s off) → hostTurn s =
      hostWrite (operandValue s off) (BitVec.ofNat 32 (operandValue s data)) (answered rest okResponse s)) ∧
    (badAccess (operandValue s off) 4 → hostTurn s = .next (answered rest { busError := true, data := none } s))) ∧
  (∀ (s : State) (off : Operand) (name : String) (rest : List HostLine), s.host = .rd32 off name :: rest →
    hostTurn s = .next
      { answered rest (readAnswer s (operandValue s off)) s with
        names := (name, readData s (operandValue s off)) :: s.names }) ∧
  (∀ (s : State) (off mask value : Operand) (rest : List HostLine), s.host = .poll off mask value :: rest →
    hostTurn s = .next (answered
      (if readData s (operandValue s off) &&& BitVec.ofNat 32 (operandValue s mask) = BitVec.ofNat 32 (operandValue s value)
        then rest else s.host)
      (readAnswer s (operandValue s off)) s)) ∧
  (∀ (s : State) (off mask : Operand) (rest : List HostLine), s.host = .pollnz off mask :: rest →
    hostTurn s = .next (answered
      (if readData s (operandValue s off) &&& BitVec.ofNat 32 (operandValue s mask) ≠ 0 then rest else s.host)
      (readAnswer s (operandValue s off)) s)) ∧
  (∀ (s : State) (a : Access) (rest : List HostLine), s.host = .access a :: rest →
    hostTurn s = performAccess a { s with host := rest } ∧
    (∀ off data, a = { kind := .write data, off := off, size := 4 } → goodOffset off →
      hostTurn s = hostWrite off data (answered rest okResponse s))) ∧
  (∀ (s : State) (name : String) (v : Word32),
    operandValue { s with names := (name, v) :: s.names } (.name name) = v.toNat ∧
    ∀ x, x ≠ name → operandValue { s with names := (name, v) :: s.names } (.name x) = operandValue s (.name x)) ∧
  (∀ (s : State) (n : Nat) (a b : Operand),
    operandValue s (.num n) = n ∧ operandValue s (.sum a b) = operandValue s a + operandValue s b)

/-- The pseudo-instructions (30_encoding.md R119), each by its lines and by the host turns of them: `cmd` writes its row's word
and runs its command, `setlen N` leaves `N` in `MSG_LEN`, `wrmsg` leaves its bytes and the zeros after them in the buffer from
address 0, and `waitdone` stays the next line until `DONE` or `ERR` stands. What the operand `N` may be and is worth beyond a
number and a bound name is the model's choice (log 20), and so is one read a turn (log 2). -/
def Obligations.PseudoInstructionsDoTheirWork : Prop :=
  (expand (.cmd .nop) = [.wr32 (.num 0x004) (.num 0x0000_0000)] ∧
    expand (.cmd .hash256) = [.wr32 (.num 0x004) (.num 0x0000_0001)] ∧
    expand (.cmd .hash384) = [.wr32 (.num 0x004) (.num 0x0000_0101)] ∧
    expand (.cmd .hash512) = [.wr32 (.num 0x004) (.num 0x0000_0201)] ∧
    expand (.cmd .abort) = [.wr32 (.num 0x004) (.num 0x0000_0002)] ∧
    expand (.cmd .clear) = [.wr32 (.num 0x004) (.num 0x0000_0003)] ∧
    expand .waitdone = [.pollnz (.num 0x008) (.num 0x0000_0030)]) ∧
  (∀ (s : State) (i : Instr) (lines : List HostLine), nextTurn s = .host → s.host = expand (.cmd i) ++ lines →
    step s = exec i (answered lines okResponse (takeTurn s))) ∧
  (∀ (s : State) (n : Operand) (lines : List HostLine) (rest : List Turn), notBusy s → operandValue s n < 2 ^ 64 →
    s.host = expand (.setlen n) ++ lines → s.turns = [.host, .host] ++ rest →
    ∃ t, Host.Core.run core 2 s = .next t ∧ t.MSG_LEN.toNat = operandValue s n ∧ t.host = lines ∧ t.PHASE = s.PHASE ∧
      (∀ a, msgByte t a = msgByte s a)) ∧
  (∀ (s : State) (bytes : List Byte) (lines : List HostLine) (rest : List Turn), notBusy s →
    bytes.length ≤ Config.MSG_CAP → s.host = expand (.wrmsg bytes) ++ lines →
    s.turns = List.replicate ((bytes.length + 3) / 4) .host ++ rest →
    ∃ t, Host.Core.run core ((bytes.length + 3) / 4) s = .next t ∧
      (∀ k, k < 4 * ((bytes.length + 3) / 4) → msgByte t k = bytes.getD k 0) ∧
      (∀ k, 4 * ((bytes.length + 3) / 4) ≤ k → msgByte t k = msgByte s k) ∧
      t.MSG_LEN = s.MSG_LEN ∧ t.host = lines ∧ t.PHASE = s.PHASE) ∧
  (∀ (s : State) (lines : List HostLine), nextTurn s = .host → s.host = expand .waitdone ++ lines →
    step s = .next (answered (if s.DONE = true ∨ s.ERR = true then lines else s.host)
      { busError := false, data := some (statusWord s) } (takeTurn s)))

/-! ## Reset (70_reset_and_hazards.md) -/

/-- The reset values (R301), read from `State.reset` and through the port: everything 0, phase `IDLE`, `irq` low. Nothing is
said of the buffer's bytes, which are unspecified. -/
def Obligations.ResetValues : Prop :=
  State.reset.H = Vector.replicate 8 0 ∧ State.reset.S = Vector.replicate 8 0 ∧
  State.reset.W = Vector.replicate 80 0 ∧ State.reset.M = Vector.replicate 16 0 ∧
  State.reset.PHASE = .idle ∧ State.reset.BLK = 0 ∧ State.reset.NBLK = 0 ∧ State.reset.J = 0 ∧
  State.reset.VAR.code = 0 ∧ State.reset.DONE = false ∧ State.reset.ERR = false ∧ State.reset.ERRCODE = .none ∧
  State.reset.REJ = false ∧ State.reset.REJ_CAUSE = 0 ∧ State.reset.REJ_ADDR = 0 ∧ State.reset.REJ_DATA = 0 ∧
  State.reset.IRQ_EN = 0 ∧ State.reset.MSG_LEN = 0 ∧ State.reset.DIGEST = Vector.replicate 128 0 ∧
  irq State.reset = false ∧ statusWord State.reset = 0

/-- The reset event (R300, R301): in every state and phase, one reset turn puts every register to its reset value; a byte
stored before is a free value again. That the host's lines and names survive is the model's choice (log 6). -/
def Obligations.ResetTurnRestoresResetValues : Prop :=
  ∀ (s : State) (rest : List Turn), s.turns = .reset :: rest →
    step s = .next
      { State.reset with
        BASE := s.BASE
        draw := s.draw + 1
        host := s.host
        names := s.names
        response := s.response
        turns := rest
        turnDraws := s.turnDraws
        wait := s.wait }

/-! ## Whole-machine invariants -/

/-- The invariant holds right after reset. -/
def Obligations.ResetMeetsTheInvariant : Prop := Inv State.reset ∧ Computes State.reset

/-- Every step of every agent keeps the invariant. -/
def Obligations.EveryStepKeepsTheInvariant : Prop :=
  ∀ s t : State, Inv s → step s = .next t → Inv t

/-- From a state that meets the invariant, every run is safe: no step of a conforming engine faults or refuses
(60_exceptions.md R274; the fault itself is the model's choice, log 7). -/
def Obligations.RunsAreSafe : Prop :=
  ∀ (k : Nat) (s : State), Inv s → safeRun k s

/-- A fault is raised by one position only: an engine turn in `COMP` with `J` above the round count (log 7). -/
def Obligations.TheOnlyFault : Prop :=
  ∀ (s : State) (r : Fault), step s = .fault r ↔
    nextTurn s = .engine ∧ s.PHASE = .comp ∧ s.VAR.R < s.J.toNat ∧ r = .internalInvariantViolation

/-- The memory's canonical form: a store keeps it, a stored byte is found, every other byte stays, and two memories in
canonical form that hold the same bytes are the same data. -/
def Obligations.MemoryIsCanonical : Prop :=
  (∀ (m : Memory) (a : Nat) (x : Byte), Memory.wf m = true → Memory.wf (Memory.store a x m) = true) ∧
  (∀ (m : Memory) (a : Nat) (x : Byte), Memory.lookup a (Memory.store a x m) = some x) ∧
  (∀ (m : Memory) (a b : Nat) (x : Byte), b ≠ a → Memory.lookup b (Memory.store a x m) = Memory.lookup b m) ∧
  (∀ m m' : Memory, Memory.wf m = true → Memory.wf m' = true → (∀ a, Memory.lookup a m = Memory.lookup a m') → m = m')

/-- Completion handshake (20_memory.md R97, in part an inference the spec marks as its own): in `DONE`, no turn but a reset and
a host turn that writes HASH or ABORT changes the accumulator or the digest: the engine's turns, whatever line waits, and a
CLEAR keep them. -/
def Obligations.ResultStaysUntilHashOrAbort : Prop :=
  ∀ s t : State, s.PHASE = .done → step s = .next t → nextTurn s ≠ .reset →
    (nextTurn s = .host → ∀ c rest i, writesCommand s c rest → decode c = .ok i → i = .nop ∨ i = .clear) →
    t.H = s.H ∧ t.DIGEST = s.DIGEST ∧ t.VAR = s.VAR

/-! ## Platform (60_exceptions.md R292) -/

/-- Instances share nothing (R292): a step of one changes no other and moves no base, so the platform stays well-formed; an
access of a host address in one instance's window reaches that instance at the offset from its base and no other; and after a
platform reset each is in its reset state at its own base. How a platform is data is the model's choice (log 9). -/
def Obligations.InstancesShareNothing : Prop :=
  (∀ (p q : Platform) (k j : Nat), platformStep k p = .next q → j ≠ k → q[j]? = p[j]?) ∧
  (∀ (p q : Platform) (k : Nat), platformStep k p = .next q →
    q.map State.BASE = p.map State.BASE ∧ (platformWf p → platformWf q)) ∧
  (∀ (p : Platform) (k : Nat) (x : State) (off size : Nat) (kind : AccessKind), platformWf p → p[k]? = some x →
    off < windowSize →
    route (x.BASE + off) p = some (k, off) ∧
    (issue kind (x.BASE + off) size p)[k]? = some
      { x with host := x.host ++ [.access { kind := kind, off := off, size := size }] } ∧
    (∀ j, j ≠ k → (issue kind (x.BASE + off) size p)[j]? = p[j]?)) ∧
  (∀ (bases : List Nat) (k base : Nat), bases[k]? = some base →
    (platformReset bases)[k]? = some { State.reset with BASE := base })
end

