-- ==== Sys2Proof/Laws/Engine.lean ====
section
/-! SUPPORT. Everything the engine's turn can do, once: one lemma per row of the step relation, and the inversion. -/

namespace Sys2Proof.Machine

theorem eng_idle (s : State) (h : s.busy = false) : engineTurn s = .next s := by
  unfold engineTurn
  unfold State.busy at h
  cases hp : s.PHASE <;> rw [hp] at h <;> first | rfl | cases h

theorem eng_pre (s : State) (h : s.PHASE = .pre) : engineTurn s = .next (stepPre s) := by
  unfold engineTurn; rw [h]

theorem eng_sched (s : State) (h : s.PHASE = .sched) : engineTurn s = .next (stepSched s) := by
  unfold engineTurn; rw [h]

theorem eng_asm (s : State) (h : s.PHASE = .asm) : engineTurn s = .next (stepAsm s) := by
  unfold engineTurn; rw [h]

theorem eng_comp (s : State) (h : s.PHASE = .comp) : engineTurn s = engineComp s := by
  unfold engineTurn; rw [h]

theorem eng_round (s : State) (h : s.PHASE = .comp) (hj : s.J.toNat < s.VAR.R) : engineTurn s = .next (stepRound s) := by
  rw [eng_comp s h, engineComp, if_pos hj]

theorem eng_fold (s : State) (h : s.PHASE = .comp) (hj : s.J.toNat = s.VAR.R) : engineTurn s = .next (stepFold s) := by
  rw [eng_comp s h, engineComp, if_neg (by omega), if_pos hj]

theorem eng_fault (s : State) (h : s.PHASE = .comp) (hj : s.VAR.R < s.J.toNat) :
    engineTurn s = .fault .internalInvariantViolation := by
  rw [eng_comp s h, engineComp, if_neg (by omega), if_neg (by omega)]

/-- The engine's turn, by phase: nothing, one of the five steps, or the fault of a position that is never held. -/
theorem eng_cases (s : State) :
    (s.busy = false ∧ engineTurn s = .next s) ∨
    (s.PHASE = .pre ∧ engineTurn s = .next (stepPre s)) ∨
    (s.PHASE = .sched ∧ engineTurn s = .next (stepSched s)) ∨
    (s.PHASE = .comp ∧ s.J.toNat < s.VAR.R ∧ engineTurn s = .next (stepRound s)) ∨
    (s.PHASE = .comp ∧ s.J.toNat = s.VAR.R ∧ engineTurn s = .next (stepFold s)) ∨
    (s.PHASE = .comp ∧ s.VAR.R < s.J.toNat ∧ engineTurn s = .fault .internalInvariantViolation) ∨
    (s.PHASE = .asm ∧ engineTurn s = .next (stepAsm s)) := by
  cases hp : s.PHASE
  case pre => exact .inr (.inl ⟨rfl, eng_pre s hp⟩)
  case sched => exact .inr (.inr (.inl ⟨rfl, eng_sched s hp⟩))
  case comp =>
    rcases Nat.lt_trichotomy s.J.toNat s.VAR.R with h | h | h
    · exact .inr (.inr (.inr (.inl ⟨rfl, h, eng_round s hp h⟩)))
    · exact .inr (.inr (.inr (.inr (.inl ⟨rfl, h, eng_fold s hp h⟩))))
    · exact .inr (.inr (.inr (.inr (.inr (.inl ⟨rfl, h, eng_fault s hp h⟩)))))
  case asm => exact .inr (.inr (.inr (.inr (.inr (.inr ⟨rfl, eng_asm s hp⟩)))))
  all_goals
    have hb : s.busy = false := by unfold State.busy; rw [hp]; rfl
    exact .inl ⟨hb, eng_idle s hb⟩

end Sys2Proof.Machine
end

