-- ==== Sys2Proof/Laws/Memory.lean ====
section
/-! SUPPORT. What the memory operations do: the canonical form is kept, a stored byte is found, every other byte stays;
the size of the buffer. -/

namespace Sys2Proof.Machine

theorem cap_le : Config.MSG_CAP ≤ 2 ^ 31 := by
  have := Config.extraWords.isLt
  unfold Config.MSG_CAP
  omega

theorem cap_ge : 256 ≤ Config.MSG_CAP ∧ Config.MSG_CAP % 4 = 0 := by
  unfold Config.MSG_CAP
  omega

theorem capConstant_toNat : capConstant.toNat = Config.MSG_CAP := by
  have := cap_le
  unfold capConstant
  rw [BitVec.toNat_ofNat, Nat.mod_eq_of_lt (by omega)]

theorem lookup_store_same (m : Memory) (a : Nat) (x : Byte) : Memory.lookup a (Memory.store a x m) = some x := by
  induction m with
  | nil => simp [Memory.store, Memory.lookup]
  | cons c m ih =>
    obtain ⟨b, y⟩ := c
    simp only [Memory.store]
    split_ifs with h1 h2
    · simp [Memory.lookup]
    · simp [Memory.lookup]
    · simp [Memory.lookup, h2, ih]

theorem lookup_store_ne (m : Memory) (a b : Nat) (x : Byte) (h : b ≠ a) :
    Memory.lookup b (Memory.store a x m) = Memory.lookup b m := by
  induction m with
  | nil => simp [Memory.store, Memory.lookup, h]
  | cons c m ih =>
    obtain ⟨d, y⟩ := c
    simp only [Memory.store]
    split_ifs with h1 h2
    · simp [Memory.lookup, h]
    · subst h2
      simp [Memory.lookup, h]
    · simp [Memory.lookup, ih]

theorem lookup_storeWord (a : Nat) (data : Word32) (m : Memory) (b : Nat) :
    Memory.lookup b (Memory.storeWord a data m) =
      if a ≤ b ∧ b < a + 4 then some (lane data (b - a)) else Memory.lookup b m := by
  unfold Memory.storeWord
  by_cases h3 : b = a + 3
  · subst h3; rw [lookup_store_same, if_pos (by omega)]; congr 2; omega
  rw [lookup_store_ne _ _ _ _ h3]
  by_cases h2 : b = a + 2
  · subst h2; rw [lookup_store_same, if_pos (by omega)]; congr 2; omega
  rw [lookup_store_ne _ _ _ _ h2]
  by_cases h1 : b = a + 1
  · subst h1; rw [lookup_store_same, if_pos (by omega)]; congr 2; omega
  rw [lookup_store_ne _ _ _ _ h1]
  by_cases h0 : b = a
  · subst h0; rw [lookup_store_same, if_pos (by omega)]; congr 2; omega
  rw [lookup_store_ne _ _ _ _ h0, if_neg (by omega)]

/-- Every byte after a store of one word, read the way the engine and the port read it. -/
theorem msgByte_msgStore (s : State) (a : Nat) (data : Word32) (b : Nat) :
    msgByte (msgStore a data s) b = if a ≤ b ∧ b < a + 4 then lane data (b - a) else msgByte s b := by
  unfold msgByte msgStore
  simp only [lookup_storeWord]
  split_ifs <;> rfl

theorem wf_cons (a : Nat) (x : Byte) (m : Memory) :
    Memory.wf ((a, x) :: m) = true ↔ (∀ c ∈ m.head?, a < c.1) ∧ Memory.wf m = true := by
  cases m with
  | nil => simp [Memory.wf]
  | cons c m => obtain ⟨b, y⟩ := c; simp [Memory.wf]

theorem store_head (m : Memory) (a b : Nat) (x : Byte) (h : ∀ c ∈ m.head?, b < c.1) (hb : b < a) :
    ∀ c ∈ (Memory.store a x m).head?, b < c.1 := by
  cases m with
  | nil => simp [Memory.store, hb]
  | cons c m =>
    obtain ⟨d, y⟩ := c
    simp only [Memory.store]
    simp at h
    split_ifs <;> simp [h, hb]

theorem store_wf (m : Memory) (a : Nat) (x : Byte) (h : Memory.wf m = true) :
    Memory.wf (Memory.store a x m) = true := by
  induction m with
  | nil => simp [Memory.store, Memory.wf]
  | cons c m ih =>
    obtain ⟨b, y⟩ := c
    have hc := (wf_cons b y m).1 h
    simp only [Memory.store]
    split_ifs with h1 h2
    · rw [wf_cons]; exact ⟨by simpa using h1, h⟩
    · subst h2; rw [wf_cons]; exact hc
    · rw [wf_cons]; exact ⟨store_head m a b x hc.1 (by omega), ih hc.2⟩

/-- The one operation that writes the buffer keeps its canonical form. -/
theorem storeWord_wf (m : Memory) (a : Nat) (data : Word32) (h : Memory.wf m = true) :
    Memory.wf (Memory.storeWord a data m) = true :=
  store_wf _ _ _ (store_wf _ _ _ (store_wf _ _ _ (store_wf _ _ _ h)))

theorem mem_store (m : Memory) (a : Nat) (x : Byte) (c : Host.Cell) (h : c ∈ Memory.store a x m) :
    c = (a, x) ∨ c ∈ m := by
  induction m with
  | nil => simpa [Memory.store] using h
  | cons d m ih =>
    obtain ⟨b, y⟩ := d
    simp only [Memory.store] at h
    split_ifs at h
    · simpa using h
    · rcases List.mem_cons.1 h with h | h
      · exact .inl h
      · exact .inr (List.mem_cons_of_mem _ h)
    · rcases List.mem_cons.1 h with h | h
      · exact .inr (h ▸ List.mem_cons_self)
      · exact (ih h).imp id (List.mem_cons_of_mem _)

/-- A store lists no address but its own four. -/
theorem mem_storeWord (m : Memory) (a : Nat) (data : Word32) (c : Host.Cell) (h : c ∈ Memory.storeWord a data m) :
    (a ≤ c.1 ∧ c.1 < a + 4) ∨ c ∈ m := by
  unfold Memory.storeWord at h
  rcases mem_store _ _ _ _ h with rfl | h
  · exact .inl ⟨by simp, by simp⟩
  rcases mem_store _ _ _ _ h with rfl | h
  · exact .inl ⟨by simp, by simp⟩
  rcases mem_store _ _ _ _ h with rfl | h
  · exact .inl ⟨by simp, by simp⟩
  rcases mem_store _ _ _ _ h with rfl | h
  · exact .inl ⟨by simp, by simp⟩
  exact .inr h

theorem reset_memory_wf : Memory.wf State.reset.MSG = true := rfl

end Sys2Proof.Machine
end

