-- ==== Sys2Proof/Laws/State.lean ====
section
/-! SUPPORT. The fields of a state after each named update, one lemma per field, so that no later proof unfolds a record
update. -/

namespace Sys2Proof.Machine

@[simp] theorem raiseError_BASE (code : ErrCode) (s : State) : (raiseError code s).BASE = s.BASE := rfl
@[simp] theorem raiseError_H (code : ErrCode) (s : State) : (raiseError code s).H = s.H := rfl
@[simp] theorem raiseError_S (code : ErrCode) (s : State) : (raiseError code s).S = s.S := rfl
@[simp] theorem raiseError_W (code : ErrCode) (s : State) : (raiseError code s).W = s.W := rfl
@[simp] theorem raiseError_M (code : ErrCode) (s : State) : (raiseError code s).M = s.M := rfl
@[simp] theorem raiseError_PHASE (code : ErrCode) (s : State) : (raiseError code s).PHASE = .error := rfl
@[simp] theorem raiseError_BLK (code : ErrCode) (s : State) : (raiseError code s).BLK = s.BLK := rfl
@[simp] theorem raiseError_NBLK (code : ErrCode) (s : State) : (raiseError code s).NBLK = s.NBLK := rfl
@[simp] theorem raiseError_J (code : ErrCode) (s : State) : (raiseError code s).J = s.J := rfl
@[simp] theorem raiseError_VAR (code : ErrCode) (s : State) : (raiseError code s).VAR = s.VAR := rfl
@[simp] theorem raiseError_DONE (code : ErrCode) (s : State) : (raiseError code s).DONE = s.DONE := rfl
@[simp] theorem raiseError_ERR (code : ErrCode) (s : State) : (raiseError code s).ERR = true := rfl
@[simp] theorem raiseError_ERRCODE (code : ErrCode) (s : State) : (raiseError code s).ERRCODE = code := rfl
@[simp] theorem raiseError_REJ (code : ErrCode) (s : State) : (raiseError code s).REJ = s.REJ := rfl
@[simp] theorem raiseError_REJ_CAUSE (code : ErrCode) (s : State) : (raiseError code s).REJ_CAUSE = s.REJ_CAUSE := rfl
@[simp] theorem raiseError_REJ_ADDR (code : ErrCode) (s : State) : (raiseError code s).REJ_ADDR = s.REJ_ADDR := rfl
@[simp] theorem raiseError_REJ_DATA (code : ErrCode) (s : State) : (raiseError code s).REJ_DATA = s.REJ_DATA := rfl
@[simp] theorem raiseError_IRQ_EN (code : ErrCode) (s : State) : (raiseError code s).IRQ_EN = s.IRQ_EN := rfl
@[simp] theorem raiseError_MSG_LEN (code : ErrCode) (s : State) : (raiseError code s).MSG_LEN = s.MSG_LEN := rfl
@[simp] theorem raiseError_MSG (code : ErrCode) (s : State) : (raiseError code s).MSG = s.MSG := rfl
@[simp] theorem raiseError_DIGEST (code : ErrCode) (s : State) : (raiseError code s).DIGEST = s.DIGEST := rfl
@[simp] theorem raiseError_draw (code : ErrCode) (s : State) : (raiseError code s).draw = s.draw := rfl
@[simp] theorem raiseError_host (code : ErrCode) (s : State) : (raiseError code s).host = s.host := rfl
@[simp] theorem raiseError_names (code : ErrCode) (s : State) : (raiseError code s).names = s.names := rfl
@[simp] theorem raiseError_response (code : ErrCode) (s : State) : (raiseError code s).response = s.response := rfl
@[simp] theorem raiseError_turns (code : ErrCode) (s : State) : (raiseError code s).turns = s.turns := rfl
@[simp] theorem raiseError_turnDraws (code : ErrCode) (s : State) : (raiseError code s).turnDraws = s.turnDraws := rfl
@[simp] theorem raiseError_wait (code : ErrCode) (s : State) : (raiseError code s).wait = s.wait := rfl

@[simp] theorem clearOutcome_BASE (s : State) : (clearOutcome s).BASE = s.BASE := rfl
@[simp] theorem clearOutcome_H (s : State) : (clearOutcome s).H = s.H := rfl
@[simp] theorem clearOutcome_S (s : State) : (clearOutcome s).S = s.S := rfl
@[simp] theorem clearOutcome_W (s : State) : (clearOutcome s).W = s.W := rfl
@[simp] theorem clearOutcome_M (s : State) : (clearOutcome s).M = s.M := rfl
@[simp] theorem clearOutcome_PHASE (s : State) : (clearOutcome s).PHASE = s.PHASE := rfl
@[simp] theorem clearOutcome_BLK (s : State) : (clearOutcome s).BLK = s.BLK := rfl
@[simp] theorem clearOutcome_NBLK (s : State) : (clearOutcome s).NBLK = s.NBLK := rfl
@[simp] theorem clearOutcome_J (s : State) : (clearOutcome s).J = s.J := rfl
@[simp] theorem clearOutcome_VAR (s : State) : (clearOutcome s).VAR = s.VAR := rfl
@[simp] theorem clearOutcome_DONE (s : State) : (clearOutcome s).DONE = false := rfl
@[simp] theorem clearOutcome_ERR (s : State) : (clearOutcome s).ERR = false := rfl
@[simp] theorem clearOutcome_ERRCODE (s : State) : (clearOutcome s).ERRCODE = .none := rfl
@[simp] theorem clearOutcome_REJ (s : State) : (clearOutcome s).REJ = s.REJ := rfl
@[simp] theorem clearOutcome_REJ_CAUSE (s : State) : (clearOutcome s).REJ_CAUSE = s.REJ_CAUSE := rfl
@[simp] theorem clearOutcome_REJ_ADDR (s : State) : (clearOutcome s).REJ_ADDR = s.REJ_ADDR := rfl
@[simp] theorem clearOutcome_REJ_DATA (s : State) : (clearOutcome s).REJ_DATA = s.REJ_DATA := rfl
@[simp] theorem clearOutcome_IRQ_EN (s : State) : (clearOutcome s).IRQ_EN = s.IRQ_EN := rfl
@[simp] theorem clearOutcome_MSG_LEN (s : State) : (clearOutcome s).MSG_LEN = s.MSG_LEN := rfl
@[simp] theorem clearOutcome_MSG (s : State) : (clearOutcome s).MSG = s.MSG := rfl
@[simp] theorem clearOutcome_DIGEST (s : State) : (clearOutcome s).DIGEST = s.DIGEST := rfl
@[simp] theorem clearOutcome_draw (s : State) : (clearOutcome s).draw = s.draw := rfl
@[simp] theorem clearOutcome_host (s : State) : (clearOutcome s).host = s.host := rfl
@[simp] theorem clearOutcome_names (s : State) : (clearOutcome s).names = s.names := rfl
@[simp] theorem clearOutcome_response (s : State) : (clearOutcome s).response = s.response := rfl
@[simp] theorem clearOutcome_turns (s : State) : (clearOutcome s).turns = s.turns := rfl
@[simp] theorem clearOutcome_turnDraws (s : State) : (clearOutcome s).turnDraws = s.turnDraws := rfl
@[simp] theorem clearOutcome_wait (s : State) : (clearOutcome s).wait = s.wait := rfl

@[simp] theorem reject_BASE (cause : Word32) (off : Nat) (data : Word32) (s : State) : (reject cause off data s).BASE = s.BASE := rfl
@[simp] theorem reject_H (cause : Word32) (off : Nat) (data : Word32) (s : State) : (reject cause off data s).H = s.H := rfl
@[simp] theorem reject_S (cause : Word32) (off : Nat) (data : Word32) (s : State) : (reject cause off data s).S = s.S := rfl
@[simp] theorem reject_W (cause : Word32) (off : Nat) (data : Word32) (s : State) : (reject cause off data s).W = s.W := rfl
@[simp] theorem reject_M (cause : Word32) (off : Nat) (data : Word32) (s : State) : (reject cause off data s).M = s.M := rfl
@[simp] theorem reject_PHASE (cause : Word32) (off : Nat) (data : Word32) (s : State) : (reject cause off data s).PHASE = s.PHASE := rfl
@[simp] theorem reject_BLK (cause : Word32) (off : Nat) (data : Word32) (s : State) : (reject cause off data s).BLK = s.BLK := rfl
@[simp] theorem reject_NBLK (cause : Word32) (off : Nat) (data : Word32) (s : State) : (reject cause off data s).NBLK = s.NBLK := rfl
@[simp] theorem reject_J (cause : Word32) (off : Nat) (data : Word32) (s : State) : (reject cause off data s).J = s.J := rfl
@[simp] theorem reject_VAR (cause : Word32) (off : Nat) (data : Word32) (s : State) : (reject cause off data s).VAR = s.VAR := rfl
@[simp] theorem reject_DONE (cause : Word32) (off : Nat) (data : Word32) (s : State) : (reject cause off data s).DONE = s.DONE := rfl
@[simp] theorem reject_ERR (cause : Word32) (off : Nat) (data : Word32) (s : State) : (reject cause off data s).ERR = s.ERR := rfl
@[simp] theorem reject_ERRCODE (cause : Word32) (off : Nat) (data : Word32) (s : State) : (reject cause off data s).ERRCODE = s.ERRCODE := rfl
@[simp] theorem reject_REJ (cause : Word32) (off : Nat) (data : Word32) (s : State) : (reject cause off data s).REJ = true := rfl
@[simp] theorem reject_REJ_CAUSE (cause : Word32) (off : Nat) (data : Word32) (s : State) : (reject cause off data s).REJ_CAUSE = if s.REJ then s.REJ_CAUSE else cause := rfl
@[simp] theorem reject_REJ_ADDR (cause : Word32) (off : Nat) (data : Word32) (s : State) : (reject cause off data s).REJ_ADDR = if s.REJ then s.REJ_ADDR else BitVec.ofNat 32 off := rfl
@[simp] theorem reject_REJ_DATA (cause : Word32) (off : Nat) (data : Word32) (s : State) : (reject cause off data s).REJ_DATA = if s.REJ then s.REJ_DATA else data := rfl
@[simp] theorem reject_IRQ_EN (cause : Word32) (off : Nat) (data : Word32) (s : State) : (reject cause off data s).IRQ_EN = s.IRQ_EN := rfl
@[simp] theorem reject_MSG_LEN (cause : Word32) (off : Nat) (data : Word32) (s : State) : (reject cause off data s).MSG_LEN = s.MSG_LEN := rfl
@[simp] theorem reject_MSG (cause : Word32) (off : Nat) (data : Word32) (s : State) : (reject cause off data s).MSG = s.MSG := rfl
@[simp] theorem reject_DIGEST (cause : Word32) (off : Nat) (data : Word32) (s : State) : (reject cause off data s).DIGEST = s.DIGEST := rfl
@[simp] theorem reject_draw (cause : Word32) (off : Nat) (data : Word32) (s : State) : (reject cause off data s).draw = s.draw := rfl
@[simp] theorem reject_host (cause : Word32) (off : Nat) (data : Word32) (s : State) : (reject cause off data s).host = s.host := rfl
@[simp] theorem reject_names (cause : Word32) (off : Nat) (data : Word32) (s : State) : (reject cause off data s).names = s.names := rfl
@[simp] theorem reject_response (cause : Word32) (off : Nat) (data : Word32) (s : State) : (reject cause off data s).response = s.response := rfl
@[simp] theorem reject_turns (cause : Word32) (off : Nat) (data : Word32) (s : State) : (reject cause off data s).turns = s.turns := rfl
@[simp] theorem reject_turnDraws (cause : Word32) (off : Nat) (data : Word32) (s : State) : (reject cause off data s).turnDraws = s.turnDraws := rfl
@[simp] theorem reject_wait (cause : Word32) (off : Nat) (data : Word32) (s : State) : (reject cause off data s).wait = s.wait := rfl

@[simp] theorem clearRejection_BASE (s : State) : (clearRejection s).BASE = s.BASE := rfl
@[simp] theorem clearRejection_H (s : State) : (clearRejection s).H = s.H := rfl
@[simp] theorem clearRejection_S (s : State) : (clearRejection s).S = s.S := rfl
@[simp] theorem clearRejection_W (s : State) : (clearRejection s).W = s.W := rfl
@[simp] theorem clearRejection_M (s : State) : (clearRejection s).M = s.M := rfl
@[simp] theorem clearRejection_PHASE (s : State) : (clearRejection s).PHASE = s.PHASE := rfl
@[simp] theorem clearRejection_BLK (s : State) : (clearRejection s).BLK = s.BLK := rfl
@[simp] theorem clearRejection_NBLK (s : State) : (clearRejection s).NBLK = s.NBLK := rfl
@[simp] theorem clearRejection_J (s : State) : (clearRejection s).J = s.J := rfl
@[simp] theorem clearRejection_VAR (s : State) : (clearRejection s).VAR = s.VAR := rfl
@[simp] theorem clearRejection_DONE (s : State) : (clearRejection s).DONE = s.DONE := rfl
@[simp] theorem clearRejection_ERR (s : State) : (clearRejection s).ERR = s.ERR := rfl
@[simp] theorem clearRejection_ERRCODE (s : State) : (clearRejection s).ERRCODE = s.ERRCODE := rfl
@[simp] theorem clearRejection_REJ (s : State) : (clearRejection s).REJ = false := rfl
@[simp] theorem clearRejection_REJ_CAUSE (s : State) : (clearRejection s).REJ_CAUSE = 0 := rfl
@[simp] theorem clearRejection_REJ_ADDR (s : State) : (clearRejection s).REJ_ADDR = 0 := rfl
@[simp] theorem clearRejection_REJ_DATA (s : State) : (clearRejection s).REJ_DATA = 0 := rfl
@[simp] theorem clearRejection_IRQ_EN (s : State) : (clearRejection s).IRQ_EN = s.IRQ_EN := rfl
@[simp] theorem clearRejection_MSG_LEN (s : State) : (clearRejection s).MSG_LEN = s.MSG_LEN := rfl
@[simp] theorem clearRejection_MSG (s : State) : (clearRejection s).MSG = s.MSG := rfl
@[simp] theorem clearRejection_DIGEST (s : State) : (clearRejection s).DIGEST = s.DIGEST := rfl
@[simp] theorem clearRejection_draw (s : State) : (clearRejection s).draw = s.draw := rfl
@[simp] theorem clearRejection_host (s : State) : (clearRejection s).host = s.host := rfl
@[simp] theorem clearRejection_names (s : State) : (clearRejection s).names = s.names := rfl
@[simp] theorem clearRejection_response (s : State) : (clearRejection s).response = s.response := rfl
@[simp] theorem clearRejection_turns (s : State) : (clearRejection s).turns = s.turns := rfl
@[simp] theorem clearRejection_turnDraws (s : State) : (clearRejection s).turnDraws = s.turnDraws := rfl
@[simp] theorem clearRejection_wait (s : State) : (clearRejection s).wait = s.wait := rfl

@[simp] theorem clearComputation_BASE (s : State) : (clearComputation s).BASE = s.BASE := rfl
@[simp] theorem clearComputation_H (s : State) : (clearComputation s).H = Vector.replicate 8 0 := rfl
@[simp] theorem clearComputation_S (s : State) : (clearComputation s).S = Vector.replicate 8 0 := rfl
@[simp] theorem clearComputation_W (s : State) : (clearComputation s).W = Vector.replicate 80 0 := rfl
@[simp] theorem clearComputation_M (s : State) : (clearComputation s).M = Vector.replicate 16 0 := rfl
@[simp] theorem clearComputation_PHASE (s : State) : (clearComputation s).PHASE = s.PHASE := rfl
@[simp] theorem clearComputation_BLK (s : State) : (clearComputation s).BLK = 0 := rfl
@[simp] theorem clearComputation_NBLK (s : State) : (clearComputation s).NBLK = 0 := rfl
@[simp] theorem clearComputation_J (s : State) : (clearComputation s).J = 0 := rfl
@[simp] theorem clearComputation_VAR (s : State) : (clearComputation s).VAR = s.VAR := rfl
@[simp] theorem clearComputation_DONE (s : State) : (clearComputation s).DONE = false := rfl
@[simp] theorem clearComputation_ERR (s : State) : (clearComputation s).ERR = false := rfl
@[simp] theorem clearComputation_ERRCODE (s : State) : (clearComputation s).ERRCODE = .none := rfl
@[simp] theorem clearComputation_REJ (s : State) : (clearComputation s).REJ = s.REJ := rfl
@[simp] theorem clearComputation_REJ_CAUSE (s : State) : (clearComputation s).REJ_CAUSE = s.REJ_CAUSE := rfl
@[simp] theorem clearComputation_REJ_ADDR (s : State) : (clearComputation s).REJ_ADDR = s.REJ_ADDR := rfl
@[simp] theorem clearComputation_REJ_DATA (s : State) : (clearComputation s).REJ_DATA = s.REJ_DATA := rfl
@[simp] theorem clearComputation_IRQ_EN (s : State) : (clearComputation s).IRQ_EN = s.IRQ_EN := rfl
@[simp] theorem clearComputation_MSG_LEN (s : State) : (clearComputation s).MSG_LEN = s.MSG_LEN := rfl
@[simp] theorem clearComputation_MSG (s : State) : (clearComputation s).MSG = s.MSG := rfl
@[simp] theorem clearComputation_DIGEST (s : State) : (clearComputation s).DIGEST = Vector.replicate 128 0 := rfl
@[simp] theorem clearComputation_draw (s : State) : (clearComputation s).draw = s.draw := rfl
@[simp] theorem clearComputation_host (s : State) : (clearComputation s).host = s.host := rfl
@[simp] theorem clearComputation_names (s : State) : (clearComputation s).names = s.names := rfl
@[simp] theorem clearComputation_response (s : State) : (clearComputation s).response = s.response := rfl
@[simp] theorem clearComputation_turns (s : State) : (clearComputation s).turns = s.turns := rfl
@[simp] theorem clearComputation_turnDraws (s : State) : (clearComputation s).turnDraws = s.turnDraws := rfl
@[simp] theorem clearComputation_wait (s : State) : (clearComputation s).wait = s.wait := rfl

@[simp] theorem performHash_BASE (v : Variant) (s : State) : (performHash v s).BASE = s.BASE := rfl
@[simp] theorem performHash_H (v : Variant) (s : State) : (performHash v s).H = Vector.replicate 8 0 := rfl
@[simp] theorem performHash_S (v : Variant) (s : State) : (performHash v s).S = Vector.replicate 8 0 := rfl
@[simp] theorem performHash_W (v : Variant) (s : State) : (performHash v s).W = Vector.replicate 80 0 := rfl
@[simp] theorem performHash_M (v : Variant) (s : State) : (performHash v s).M = Vector.replicate 16 0 := rfl
@[simp] theorem performHash_PHASE (v : Variant) (s : State) : (performHash v s).PHASE = .pre := rfl
@[simp] theorem performHash_BLK (v : Variant) (s : State) : (performHash v s).BLK = 0 := rfl
@[simp] theorem performHash_NBLK (v : Variant) (s : State) : (performHash v s).NBLK = 0 := rfl
@[simp] theorem performHash_J (v : Variant) (s : State) : (performHash v s).J = 0 := rfl
@[simp] theorem performHash_VAR (v : Variant) (s : State) : (performHash v s).VAR = v := rfl
@[simp] theorem performHash_DONE (v : Variant) (s : State) : (performHash v s).DONE = false := rfl
@[simp] theorem performHash_ERR (v : Variant) (s : State) : (performHash v s).ERR = false := rfl
@[simp] theorem performHash_ERRCODE (v : Variant) (s : State) : (performHash v s).ERRCODE = .none := rfl
@[simp] theorem performHash_REJ (v : Variant) (s : State) : (performHash v s).REJ = s.REJ := rfl
@[simp] theorem performHash_REJ_CAUSE (v : Variant) (s : State) : (performHash v s).REJ_CAUSE = s.REJ_CAUSE := rfl
@[simp] theorem performHash_REJ_ADDR (v : Variant) (s : State) : (performHash v s).REJ_ADDR = s.REJ_ADDR := rfl
@[simp] theorem performHash_REJ_DATA (v : Variant) (s : State) : (performHash v s).REJ_DATA = s.REJ_DATA := rfl
@[simp] theorem performHash_IRQ_EN (v : Variant) (s : State) : (performHash v s).IRQ_EN = s.IRQ_EN := rfl
@[simp] theorem performHash_MSG_LEN (v : Variant) (s : State) : (performHash v s).MSG_LEN = s.MSG_LEN := rfl
@[simp] theorem performHash_MSG (v : Variant) (s : State) : (performHash v s).MSG = s.MSG := rfl
@[simp] theorem performHash_DIGEST (v : Variant) (s : State) : (performHash v s).DIGEST = Vector.replicate 128 0 := rfl
@[simp] theorem performHash_draw (v : Variant) (s : State) : (performHash v s).draw = s.draw := rfl
@[simp] theorem performHash_host (v : Variant) (s : State) : (performHash v s).host = s.host := rfl
@[simp] theorem performHash_names (v : Variant) (s : State) : (performHash v s).names = s.names := rfl
@[simp] theorem performHash_response (v : Variant) (s : State) : (performHash v s).response = s.response := rfl
@[simp] theorem performHash_turns (v : Variant) (s : State) : (performHash v s).turns = s.turns := rfl
@[simp] theorem performHash_turnDraws (v : Variant) (s : State) : (performHash v s).turnDraws = s.turnDraws := rfl
@[simp] theorem performHash_wait (v : Variant) (s : State) : (performHash v s).wait = s.wait := rfl

@[simp] theorem performAbort_BASE (s : State) : (performAbort s).BASE = s.BASE := rfl
@[simp] theorem performAbort_H (s : State) : (performAbort s).H = Vector.replicate 8 0 := rfl
@[simp] theorem performAbort_S (s : State) : (performAbort s).S = Vector.replicate 8 0 := rfl
@[simp] theorem performAbort_W (s : State) : (performAbort s).W = Vector.replicate 80 0 := rfl
@[simp] theorem performAbort_M (s : State) : (performAbort s).M = Vector.replicate 16 0 := rfl
@[simp] theorem performAbort_PHASE (s : State) : (performAbort s).PHASE = .idle := rfl
@[simp] theorem performAbort_BLK (s : State) : (performAbort s).BLK = 0 := rfl
@[simp] theorem performAbort_NBLK (s : State) : (performAbort s).NBLK = 0 := rfl
@[simp] theorem performAbort_J (s : State) : (performAbort s).J = 0 := rfl
@[simp] theorem performAbort_VAR (s : State) : (performAbort s).VAR = .v256 := rfl
@[simp] theorem performAbort_DONE (s : State) : (performAbort s).DONE = false := rfl
@[simp] theorem performAbort_ERR (s : State) : (performAbort s).ERR = false := rfl
@[simp] theorem performAbort_ERRCODE (s : State) : (performAbort s).ERRCODE = .none := rfl
@[simp] theorem performAbort_REJ (s : State) : (performAbort s).REJ = false := rfl
@[simp] theorem performAbort_REJ_CAUSE (s : State) : (performAbort s).REJ_CAUSE = 0 := rfl
@[simp] theorem performAbort_REJ_ADDR (s : State) : (performAbort s).REJ_ADDR = 0 := rfl
@[simp] theorem performAbort_REJ_DATA (s : State) : (performAbort s).REJ_DATA = 0 := rfl
@[simp] theorem performAbort_IRQ_EN (s : State) : (performAbort s).IRQ_EN = s.IRQ_EN := rfl
@[simp] theorem performAbort_MSG_LEN (s : State) : (performAbort s).MSG_LEN = s.MSG_LEN := rfl
@[simp] theorem performAbort_MSG (s : State) : (performAbort s).MSG = s.MSG := rfl
@[simp] theorem performAbort_DIGEST (s : State) : (performAbort s).DIGEST = Vector.replicate 128 0 := rfl
@[simp] theorem performAbort_draw (s : State) : (performAbort s).draw = s.draw := rfl
@[simp] theorem performAbort_host (s : State) : (performAbort s).host = s.host := rfl
@[simp] theorem performAbort_names (s : State) : (performAbort s).names = s.names := rfl
@[simp] theorem performAbort_response (s : State) : (performAbort s).response = s.response := rfl
@[simp] theorem performAbort_turns (s : State) : (performAbort s).turns = s.turns := rfl
@[simp] theorem performAbort_turnDraws (s : State) : (performAbort s).turnDraws = s.turnDraws := rfl
@[simp] theorem performAbort_wait (s : State) : (performAbort s).wait = s.wait := rfl

@[simp] theorem performClear_BASE (s : State) : (performClear s).BASE = s.BASE := rfl
@[simp] theorem performClear_H (s : State) : (performClear s).H = s.H := rfl
@[simp] theorem performClear_S (s : State) : (performClear s).S = s.S := rfl
@[simp] theorem performClear_W (s : State) : (performClear s).W = s.W := rfl
@[simp] theorem performClear_M (s : State) : (performClear s).M = s.M := rfl
@[simp] theorem performClear_PHASE (s : State) : (performClear s).PHASE = .idle := rfl
@[simp] theorem performClear_BLK (s : State) : (performClear s).BLK = s.BLK := rfl
@[simp] theorem performClear_NBLK (s : State) : (performClear s).NBLK = s.NBLK := rfl
@[simp] theorem performClear_J (s : State) : (performClear s).J = s.J := rfl
@[simp] theorem performClear_VAR (s : State) : (performClear s).VAR = s.VAR := rfl
@[simp] theorem performClear_DONE (s : State) : (performClear s).DONE = false := rfl
@[simp] theorem performClear_ERR (s : State) : (performClear s).ERR = false := rfl
@[simp] theorem performClear_ERRCODE (s : State) : (performClear s).ERRCODE = .none := rfl
@[simp] theorem performClear_REJ (s : State) : (performClear s).REJ = false := rfl
@[simp] theorem performClear_REJ_CAUSE (s : State) : (performClear s).REJ_CAUSE = 0 := rfl
@[simp] theorem performClear_REJ_ADDR (s : State) : (performClear s).REJ_ADDR = 0 := rfl
@[simp] theorem performClear_REJ_DATA (s : State) : (performClear s).REJ_DATA = 0 := rfl
@[simp] theorem performClear_IRQ_EN (s : State) : (performClear s).IRQ_EN = s.IRQ_EN := rfl
@[simp] theorem performClear_MSG_LEN (s : State) : (performClear s).MSG_LEN = s.MSG_LEN := rfl
@[simp] theorem performClear_MSG (s : State) : (performClear s).MSG = s.MSG := rfl
@[simp] theorem performClear_DIGEST (s : State) : (performClear s).DIGEST = s.DIGEST := rfl
@[simp] theorem performClear_draw (s : State) : (performClear s).draw = s.draw := rfl
@[simp] theorem performClear_host (s : State) : (performClear s).host = s.host := rfl
@[simp] theorem performClear_names (s : State) : (performClear s).names = s.names := rfl
@[simp] theorem performClear_response (s : State) : (performClear s).response = s.response := rfl
@[simp] theorem performClear_turns (s : State) : (performClear s).turns = s.turns := rfl
@[simp] theorem performClear_turnDraws (s : State) : (performClear s).turnDraws = s.turnDraws := rfl
@[simp] theorem performClear_wait (s : State) : (performClear s).wait = s.wait := rfl

@[simp] theorem takeTurn_BASE (s : State) : (takeTurn s).BASE = s.BASE := rfl
@[simp] theorem takeTurn_H (s : State) : (takeTurn s).H = s.H := rfl
@[simp] theorem takeTurn_S (s : State) : (takeTurn s).S = s.S := rfl
@[simp] theorem takeTurn_W (s : State) : (takeTurn s).W = s.W := rfl
@[simp] theorem takeTurn_M (s : State) : (takeTurn s).M = s.M := rfl
@[simp] theorem takeTurn_PHASE (s : State) : (takeTurn s).PHASE = s.PHASE := rfl
@[simp] theorem takeTurn_BLK (s : State) : (takeTurn s).BLK = s.BLK := rfl
@[simp] theorem takeTurn_NBLK (s : State) : (takeTurn s).NBLK = s.NBLK := rfl
@[simp] theorem takeTurn_J (s : State) : (takeTurn s).J = s.J := rfl
@[simp] theorem takeTurn_VAR (s : State) : (takeTurn s).VAR = s.VAR := rfl
@[simp] theorem takeTurn_DONE (s : State) : (takeTurn s).DONE = s.DONE := rfl
@[simp] theorem takeTurn_ERR (s : State) : (takeTurn s).ERR = s.ERR := rfl
@[simp] theorem takeTurn_ERRCODE (s : State) : (takeTurn s).ERRCODE = s.ERRCODE := rfl
@[simp] theorem takeTurn_REJ (s : State) : (takeTurn s).REJ = s.REJ := rfl
@[simp] theorem takeTurn_REJ_CAUSE (s : State) : (takeTurn s).REJ_CAUSE = s.REJ_CAUSE := rfl
@[simp] theorem takeTurn_REJ_ADDR (s : State) : (takeTurn s).REJ_ADDR = s.REJ_ADDR := rfl
@[simp] theorem takeTurn_REJ_DATA (s : State) : (takeTurn s).REJ_DATA = s.REJ_DATA := rfl
@[simp] theorem takeTurn_IRQ_EN (s : State) : (takeTurn s).IRQ_EN = s.IRQ_EN := rfl
@[simp] theorem takeTurn_MSG_LEN (s : State) : (takeTurn s).MSG_LEN = s.MSG_LEN := rfl
@[simp] theorem takeTurn_MSG (s : State) : (takeTurn s).MSG = s.MSG := rfl
@[simp] theorem takeTurn_DIGEST (s : State) : (takeTurn s).DIGEST = s.DIGEST := rfl
@[simp] theorem takeTurn_draw (s : State) : (takeTurn s).draw = s.draw := rfl
@[simp] theorem takeTurn_host (s : State) : (takeTurn s).host = s.host := rfl
@[simp] theorem takeTurn_names (s : State) : (takeTurn s).names = s.names := rfl
@[simp] theorem takeTurn_response (s : State) : (takeTurn s).response = s.response := rfl
@[simp] theorem takeTurn_turns (s : State) : (takeTurn s).turns = s.turns.tail := rfl
@[simp] theorem takeTurn_turnDraws (s : State) : (takeTurn s).turnDraws = if s.turns.isEmpty then s.turnDraws + 1 else s.turnDraws := rfl
@[simp] theorem takeTurn_wait (s : State) : (takeTurn s).wait = if s.turns.isEmpty then (if s.wait = 0 then Config.freeWait s.BASE s.turnDraws else s.wait - 1) else s.wait := rfl

@[simp] theorem respond_BASE (r : Response) (s : State) : (respond r s).BASE = s.BASE := rfl
@[simp] theorem respond_H (r : Response) (s : State) : (respond r s).H = s.H := rfl
@[simp] theorem respond_S (r : Response) (s : State) : (respond r s).S = s.S := rfl
@[simp] theorem respond_W (r : Response) (s : State) : (respond r s).W = s.W := rfl
@[simp] theorem respond_M (r : Response) (s : State) : (respond r s).M = s.M := rfl
@[simp] theorem respond_PHASE (r : Response) (s : State) : (respond r s).PHASE = s.PHASE := rfl
@[simp] theorem respond_BLK (r : Response) (s : State) : (respond r s).BLK = s.BLK := rfl
@[simp] theorem respond_NBLK (r : Response) (s : State) : (respond r s).NBLK = s.NBLK := rfl
@[simp] theorem respond_J (r : Response) (s : State) : (respond r s).J = s.J := rfl
@[simp] theorem respond_VAR (r : Response) (s : State) : (respond r s).VAR = s.VAR := rfl
@[simp] theorem respond_DONE (r : Response) (s : State) : (respond r s).DONE = s.DONE := rfl
@[simp] theorem respond_ERR (r : Response) (s : State) : (respond r s).ERR = s.ERR := rfl
@[simp] theorem respond_ERRCODE (r : Response) (s : State) : (respond r s).ERRCODE = s.ERRCODE := rfl
@[simp] theorem respond_REJ (r : Response) (s : State) : (respond r s).REJ = s.REJ := rfl
@[simp] theorem respond_REJ_CAUSE (r : Response) (s : State) : (respond r s).REJ_CAUSE = s.REJ_CAUSE := rfl
@[simp] theorem respond_REJ_ADDR (r : Response) (s : State) : (respond r s).REJ_ADDR = s.REJ_ADDR := rfl
@[simp] theorem respond_REJ_DATA (r : Response) (s : State) : (respond r s).REJ_DATA = s.REJ_DATA := rfl
@[simp] theorem respond_IRQ_EN (r : Response) (s : State) : (respond r s).IRQ_EN = s.IRQ_EN := rfl
@[simp] theorem respond_MSG_LEN (r : Response) (s : State) : (respond r s).MSG_LEN = s.MSG_LEN := rfl
@[simp] theorem respond_MSG (r : Response) (s : State) : (respond r s).MSG = s.MSG := rfl
@[simp] theorem respond_DIGEST (r : Response) (s : State) : (respond r s).DIGEST = s.DIGEST := rfl
@[simp] theorem respond_draw (r : Response) (s : State) : (respond r s).draw = s.draw := rfl
@[simp] theorem respond_host (r : Response) (s : State) : (respond r s).host = s.host := rfl
@[simp] theorem respond_names (r : Response) (s : State) : (respond r s).names = s.names := rfl
@[simp] theorem respond_response (r : Response) (s : State) : (respond r s).response = some r := rfl
@[simp] theorem respond_turns (r : Response) (s : State) : (respond r s).turns = s.turns := rfl
@[simp] theorem respond_turnDraws (r : Response) (s : State) : (respond r s).turnDraws = s.turnDraws := rfl
@[simp] theorem respond_wait (r : Response) (s : State) : (respond r s).wait = s.wait := rfl

@[simp] theorem setHost_BASE (ls : List HostLine) (s : State) : (setHost ls s).BASE = s.BASE := rfl
@[simp] theorem setHost_H (ls : List HostLine) (s : State) : (setHost ls s).H = s.H := rfl
@[simp] theorem setHost_S (ls : List HostLine) (s : State) : (setHost ls s).S = s.S := rfl
@[simp] theorem setHost_W (ls : List HostLine) (s : State) : (setHost ls s).W = s.W := rfl
@[simp] theorem setHost_M (ls : List HostLine) (s : State) : (setHost ls s).M = s.M := rfl
@[simp] theorem setHost_PHASE (ls : List HostLine) (s : State) : (setHost ls s).PHASE = s.PHASE := rfl
@[simp] theorem setHost_BLK (ls : List HostLine) (s : State) : (setHost ls s).BLK = s.BLK := rfl
@[simp] theorem setHost_NBLK (ls : List HostLine) (s : State) : (setHost ls s).NBLK = s.NBLK := rfl
@[simp] theorem setHost_J (ls : List HostLine) (s : State) : (setHost ls s).J = s.J := rfl
@[simp] theorem setHost_VAR (ls : List HostLine) (s : State) : (setHost ls s).VAR = s.VAR := rfl
@[simp] theorem setHost_DONE (ls : List HostLine) (s : State) : (setHost ls s).DONE = s.DONE := rfl
@[simp] theorem setHost_ERR (ls : List HostLine) (s : State) : (setHost ls s).ERR = s.ERR := rfl
@[simp] theorem setHost_ERRCODE (ls : List HostLine) (s : State) : (setHost ls s).ERRCODE = s.ERRCODE := rfl
@[simp] theorem setHost_REJ (ls : List HostLine) (s : State) : (setHost ls s).REJ = s.REJ := rfl
@[simp] theorem setHost_REJ_CAUSE (ls : List HostLine) (s : State) : (setHost ls s).REJ_CAUSE = s.REJ_CAUSE := rfl
@[simp] theorem setHost_REJ_ADDR (ls : List HostLine) (s : State) : (setHost ls s).REJ_ADDR = s.REJ_ADDR := rfl
@[simp] theorem setHost_REJ_DATA (ls : List HostLine) (s : State) : (setHost ls s).REJ_DATA = s.REJ_DATA := rfl
@[simp] theorem setHost_IRQ_EN (ls : List HostLine) (s : State) : (setHost ls s).IRQ_EN = s.IRQ_EN := rfl
@[simp] theorem setHost_MSG_LEN (ls : List HostLine) (s : State) : (setHost ls s).MSG_LEN = s.MSG_LEN := rfl
@[simp] theorem setHost_MSG (ls : List HostLine) (s : State) : (setHost ls s).MSG = s.MSG := rfl
@[simp] theorem setHost_DIGEST (ls : List HostLine) (s : State) : (setHost ls s).DIGEST = s.DIGEST := rfl
@[simp] theorem setHost_draw (ls : List HostLine) (s : State) : (setHost ls s).draw = s.draw := rfl
@[simp] theorem setHost_host (ls : List HostLine) (s : State) : (setHost ls s).host = ls := rfl
@[simp] theorem setHost_names (ls : List HostLine) (s : State) : (setHost ls s).names = s.names := rfl
@[simp] theorem setHost_response (ls : List HostLine) (s : State) : (setHost ls s).response = s.response := rfl
@[simp] theorem setHost_turns (ls : List HostLine) (s : State) : (setHost ls s).turns = s.turns := rfl
@[simp] theorem setHost_turnDraws (ls : List HostLine) (s : State) : (setHost ls s).turnDraws = s.turnDraws := rfl
@[simp] theorem setHost_wait (ls : List HostLine) (s : State) : (setHost ls s).wait = s.wait := rfl

@[simp] theorem bindName_BASE (name : String) (v : Word32) (s : State) : (bindName name v s).BASE = s.BASE := rfl
@[simp] theorem bindName_H (name : String) (v : Word32) (s : State) : (bindName name v s).H = s.H := rfl
@[simp] theorem bindName_S (name : String) (v : Word32) (s : State) : (bindName name v s).S = s.S := rfl
@[simp] theorem bindName_W (name : String) (v : Word32) (s : State) : (bindName name v s).W = s.W := rfl
@[simp] theorem bindName_M (name : String) (v : Word32) (s : State) : (bindName name v s).M = s.M := rfl
@[simp] theorem bindName_PHASE (name : String) (v : Word32) (s : State) : (bindName name v s).PHASE = s.PHASE := rfl
@[simp] theorem bindName_BLK (name : String) (v : Word32) (s : State) : (bindName name v s).BLK = s.BLK := rfl
@[simp] theorem bindName_NBLK (name : String) (v : Word32) (s : State) : (bindName name v s).NBLK = s.NBLK := rfl
@[simp] theorem bindName_J (name : String) (v : Word32) (s : State) : (bindName name v s).J = s.J := rfl
@[simp] theorem bindName_VAR (name : String) (v : Word32) (s : State) : (bindName name v s).VAR = s.VAR := rfl
@[simp] theorem bindName_DONE (name : String) (v : Word32) (s : State) : (bindName name v s).DONE = s.DONE := rfl
@[simp] theorem bindName_ERR (name : String) (v : Word32) (s : State) : (bindName name v s).ERR = s.ERR := rfl
@[simp] theorem bindName_ERRCODE (name : String) (v : Word32) (s : State) : (bindName name v s).ERRCODE = s.ERRCODE := rfl
@[simp] theorem bindName_REJ (name : String) (v : Word32) (s : State) : (bindName name v s).REJ = s.REJ := rfl
@[simp] theorem bindName_REJ_CAUSE (name : String) (v : Word32) (s : State) : (bindName name v s).REJ_CAUSE = s.REJ_CAUSE := rfl
@[simp] theorem bindName_REJ_ADDR (name : String) (v : Word32) (s : State) : (bindName name v s).REJ_ADDR = s.REJ_ADDR := rfl
@[simp] theorem bindName_REJ_DATA (name : String) (v : Word32) (s : State) : (bindName name v s).REJ_DATA = s.REJ_DATA := rfl
@[simp] theorem bindName_IRQ_EN (name : String) (v : Word32) (s : State) : (bindName name v s).IRQ_EN = s.IRQ_EN := rfl
@[simp] theorem bindName_MSG_LEN (name : String) (v : Word32) (s : State) : (bindName name v s).MSG_LEN = s.MSG_LEN := rfl
@[simp] theorem bindName_MSG (name : String) (v : Word32) (s : State) : (bindName name v s).MSG = s.MSG := rfl
@[simp] theorem bindName_DIGEST (name : String) (v : Word32) (s : State) : (bindName name v s).DIGEST = s.DIGEST := rfl
@[simp] theorem bindName_draw (name : String) (v : Word32) (s : State) : (bindName name v s).draw = s.draw := rfl
@[simp] theorem bindName_host (name : String) (v : Word32) (s : State) : (bindName name v s).host = s.host := rfl
@[simp] theorem bindName_names (name : String) (v : Word32) (s : State) : (bindName name v s).names = (name, v) :: s.names := rfl
@[simp] theorem bindName_response (name : String) (v : Word32) (s : State) : (bindName name v s).response = s.response := rfl
@[simp] theorem bindName_turns (name : String) (v : Word32) (s : State) : (bindName name v s).turns = s.turns := rfl
@[simp] theorem bindName_turnDraws (name : String) (v : Word32) (s : State) : (bindName name v s).turnDraws = s.turnDraws := rfl
@[simp] theorem bindName_wait (name : String) (v : Word32) (s : State) : (bindName name v s).wait = s.wait := rfl

@[simp] theorem msgStore_BASE (a : Nat) (data : Word32) (s : State) : (msgStore a data s).BASE = s.BASE := rfl
@[simp] theorem msgStore_H (a : Nat) (data : Word32) (s : State) : (msgStore a data s).H = s.H := rfl
@[simp] theorem msgStore_S (a : Nat) (data : Word32) (s : State) : (msgStore a data s).S = s.S := rfl
@[simp] theorem msgStore_W (a : Nat) (data : Word32) (s : State) : (msgStore a data s).W = s.W := rfl
@[simp] theorem msgStore_M (a : Nat) (data : Word32) (s : State) : (msgStore a data s).M = s.M := rfl
@[simp] theorem msgStore_PHASE (a : Nat) (data : Word32) (s : State) : (msgStore a data s).PHASE = s.PHASE := rfl
@[simp] theorem msgStore_BLK (a : Nat) (data : Word32) (s : State) : (msgStore a data s).BLK = s.BLK := rfl
@[simp] theorem msgStore_NBLK (a : Nat) (data : Word32) (s : State) : (msgStore a data s).NBLK = s.NBLK := rfl
@[simp] theorem msgStore_J (a : Nat) (data : Word32) (s : State) : (msgStore a data s).J = s.J := rfl
@[simp] theorem msgStore_VAR (a : Nat) (data : Word32) (s : State) : (msgStore a data s).VAR = s.VAR := rfl
@[simp] theorem msgStore_DONE (a : Nat) (data : Word32) (s : State) : (msgStore a data s).DONE = s.DONE := rfl
@[simp] theorem msgStore_ERR (a : Nat) (data : Word32) (s : State) : (msgStore a data s).ERR = s.ERR := rfl
@[simp] theorem msgStore_ERRCODE (a : Nat) (data : Word32) (s : State) : (msgStore a data s).ERRCODE = s.ERRCODE := rfl
@[simp] theorem msgStore_REJ (a : Nat) (data : Word32) (s : State) : (msgStore a data s).REJ = s.REJ := rfl
@[simp] theorem msgStore_REJ_CAUSE (a : Nat) (data : Word32) (s : State) : (msgStore a data s).REJ_CAUSE = s.REJ_CAUSE := rfl
@[simp] theorem msgStore_REJ_ADDR (a : Nat) (data : Word32) (s : State) : (msgStore a data s).REJ_ADDR = s.REJ_ADDR := rfl
@[simp] theorem msgStore_REJ_DATA (a : Nat) (data : Word32) (s : State) : (msgStore a data s).REJ_DATA = s.REJ_DATA := rfl
@[simp] theorem msgStore_IRQ_EN (a : Nat) (data : Word32) (s : State) : (msgStore a data s).IRQ_EN = s.IRQ_EN := rfl
@[simp] theorem msgStore_MSG_LEN (a : Nat) (data : Word32) (s : State) : (msgStore a data s).MSG_LEN = s.MSG_LEN := rfl
@[simp] theorem msgStore_MSG (a : Nat) (data : Word32) (s : State) : (msgStore a data s).MSG = Memory.storeWord a data s.MSG := rfl
@[simp] theorem msgStore_DIGEST (a : Nat) (data : Word32) (s : State) : (msgStore a data s).DIGEST = s.DIGEST := rfl
@[simp] theorem msgStore_draw (a : Nat) (data : Word32) (s : State) : (msgStore a data s).draw = s.draw := rfl
@[simp] theorem msgStore_host (a : Nat) (data : Word32) (s : State) : (msgStore a data s).host = s.host := rfl
@[simp] theorem msgStore_names (a : Nat) (data : Word32) (s : State) : (msgStore a data s).names = s.names := rfl
@[simp] theorem msgStore_response (a : Nat) (data : Word32) (s : State) : (msgStore a data s).response = s.response := rfl
@[simp] theorem msgStore_turns (a : Nat) (data : Word32) (s : State) : (msgStore a data s).turns = s.turns := rfl
@[simp] theorem msgStore_turnDraws (a : Nat) (data : Word32) (s : State) : (msgStore a data s).turnDraws = s.turnDraws := rfl
@[simp] theorem msgStore_wait (a : Nat) (data : Word32) (s : State) : (msgStore a data s).wait = s.wait := rfl

@[simp] theorem setMsgLenLo_BASE (data : Word32) (s : State) : (setMsgLenLo data s).BASE = s.BASE := rfl
@[simp] theorem setMsgLenLo_H (data : Word32) (s : State) : (setMsgLenLo data s).H = s.H := rfl
@[simp] theorem setMsgLenLo_S (data : Word32) (s : State) : (setMsgLenLo data s).S = s.S := rfl
@[simp] theorem setMsgLenLo_W (data : Word32) (s : State) : (setMsgLenLo data s).W = s.W := rfl
@[simp] theorem setMsgLenLo_M (data : Word32) (s : State) : (setMsgLenLo data s).M = s.M := rfl
@[simp] theorem setMsgLenLo_PHASE (data : Word32) (s : State) : (setMsgLenLo data s).PHASE = s.PHASE := rfl
@[simp] theorem setMsgLenLo_BLK (data : Word32) (s : State) : (setMsgLenLo data s).BLK = s.BLK := rfl
@[simp] theorem setMsgLenLo_NBLK (data : Word32) (s : State) : (setMsgLenLo data s).NBLK = s.NBLK := rfl
@[simp] theorem setMsgLenLo_J (data : Word32) (s : State) : (setMsgLenLo data s).J = s.J := rfl
@[simp] theorem setMsgLenLo_VAR (data : Word32) (s : State) : (setMsgLenLo data s).VAR = s.VAR := rfl
@[simp] theorem setMsgLenLo_DONE (data : Word32) (s : State) : (setMsgLenLo data s).DONE = s.DONE := rfl
@[simp] theorem setMsgLenLo_ERR (data : Word32) (s : State) : (setMsgLenLo data s).ERR = s.ERR := rfl
@[simp] theorem setMsgLenLo_ERRCODE (data : Word32) (s : State) : (setMsgLenLo data s).ERRCODE = s.ERRCODE := rfl
@[simp] theorem setMsgLenLo_REJ (data : Word32) (s : State) : (setMsgLenLo data s).REJ = s.REJ := rfl
@[simp] theorem setMsgLenLo_REJ_CAUSE (data : Word32) (s : State) : (setMsgLenLo data s).REJ_CAUSE = s.REJ_CAUSE := rfl
@[simp] theorem setMsgLenLo_REJ_ADDR (data : Word32) (s : State) : (setMsgLenLo data s).REJ_ADDR = s.REJ_ADDR := rfl
@[simp] theorem setMsgLenLo_REJ_DATA (data : Word32) (s : State) : (setMsgLenLo data s).REJ_DATA = s.REJ_DATA := rfl
@[simp] theorem setMsgLenLo_IRQ_EN (data : Word32) (s : State) : (setMsgLenLo data s).IRQ_EN = s.IRQ_EN := rfl
@[simp] theorem setMsgLenLo_MSG_LEN (data : Word32) (s : State) : (setMsgLenLo data s).MSG_LEN = setLo s.MSG_LEN data := rfl
@[simp] theorem setMsgLenLo_MSG (data : Word32) (s : State) : (setMsgLenLo data s).MSG = s.MSG := rfl
@[simp] theorem setMsgLenLo_DIGEST (data : Word32) (s : State) : (setMsgLenLo data s).DIGEST = s.DIGEST := rfl
@[simp] theorem setMsgLenLo_draw (data : Word32) (s : State) : (setMsgLenLo data s).draw = s.draw := rfl
@[simp] theorem setMsgLenLo_host (data : Word32) (s : State) : (setMsgLenLo data s).host = s.host := rfl
@[simp] theorem setMsgLenLo_names (data : Word32) (s : State) : (setMsgLenLo data s).names = s.names := rfl
@[simp] theorem setMsgLenLo_response (data : Word32) (s : State) : (setMsgLenLo data s).response = s.response := rfl
@[simp] theorem setMsgLenLo_turns (data : Word32) (s : State) : (setMsgLenLo data s).turns = s.turns := rfl
@[simp] theorem setMsgLenLo_turnDraws (data : Word32) (s : State) : (setMsgLenLo data s).turnDraws = s.turnDraws := rfl
@[simp] theorem setMsgLenLo_wait (data : Word32) (s : State) : (setMsgLenLo data s).wait = s.wait := rfl

@[simp] theorem setMsgLenHi_BASE (data : Word32) (s : State) : (setMsgLenHi data s).BASE = s.BASE := rfl
@[simp] theorem setMsgLenHi_H (data : Word32) (s : State) : (setMsgLenHi data s).H = s.H := rfl
@[simp] theorem setMsgLenHi_S (data : Word32) (s : State) : (setMsgLenHi data s).S = s.S := rfl
@[simp] theorem setMsgLenHi_W (data : Word32) (s : State) : (setMsgLenHi data s).W = s.W := rfl
@[simp] theorem setMsgLenHi_M (data : Word32) (s : State) : (setMsgLenHi data s).M = s.M := rfl
@[simp] theorem setMsgLenHi_PHASE (data : Word32) (s : State) : (setMsgLenHi data s).PHASE = s.PHASE := rfl
@[simp] theorem setMsgLenHi_BLK (data : Word32) (s : State) : (setMsgLenHi data s).BLK = s.BLK := rfl
@[simp] theorem setMsgLenHi_NBLK (data : Word32) (s : State) : (setMsgLenHi data s).NBLK = s.NBLK := rfl
@[simp] theorem setMsgLenHi_J (data : Word32) (s : State) : (setMsgLenHi data s).J = s.J := rfl
@[simp] theorem setMsgLenHi_VAR (data : Word32) (s : State) : (setMsgLenHi data s).VAR = s.VAR := rfl
@[simp] theorem setMsgLenHi_DONE (data : Word32) (s : State) : (setMsgLenHi data s).DONE = s.DONE := rfl
@[simp] theorem setMsgLenHi_ERR (data : Word32) (s : State) : (setMsgLenHi data s).ERR = s.ERR := rfl
@[simp] theorem setMsgLenHi_ERRCODE (data : Word32) (s : State) : (setMsgLenHi data s).ERRCODE = s.ERRCODE := rfl
@[simp] theorem setMsgLenHi_REJ (data : Word32) (s : State) : (setMsgLenHi data s).REJ = s.REJ := rfl
@[simp] theorem setMsgLenHi_REJ_CAUSE (data : Word32) (s : State) : (setMsgLenHi data s).REJ_CAUSE = s.REJ_CAUSE := rfl
@[simp] theorem setMsgLenHi_REJ_ADDR (data : Word32) (s : State) : (setMsgLenHi data s).REJ_ADDR = s.REJ_ADDR := rfl
@[simp] theorem setMsgLenHi_REJ_DATA (data : Word32) (s : State) : (setMsgLenHi data s).REJ_DATA = s.REJ_DATA := rfl
@[simp] theorem setMsgLenHi_IRQ_EN (data : Word32) (s : State) : (setMsgLenHi data s).IRQ_EN = s.IRQ_EN := rfl
@[simp] theorem setMsgLenHi_MSG_LEN (data : Word32) (s : State) : (setMsgLenHi data s).MSG_LEN = setHi s.MSG_LEN data := rfl
@[simp] theorem setMsgLenHi_MSG (data : Word32) (s : State) : (setMsgLenHi data s).MSG = s.MSG := rfl
@[simp] theorem setMsgLenHi_DIGEST (data : Word32) (s : State) : (setMsgLenHi data s).DIGEST = s.DIGEST := rfl
@[simp] theorem setMsgLenHi_draw (data : Word32) (s : State) : (setMsgLenHi data s).draw = s.draw := rfl
@[simp] theorem setMsgLenHi_host (data : Word32) (s : State) : (setMsgLenHi data s).host = s.host := rfl
@[simp] theorem setMsgLenHi_names (data : Word32) (s : State) : (setMsgLenHi data s).names = s.names := rfl
@[simp] theorem setMsgLenHi_response (data : Word32) (s : State) : (setMsgLenHi data s).response = s.response := rfl
@[simp] theorem setMsgLenHi_turns (data : Word32) (s : State) : (setMsgLenHi data s).turns = s.turns := rfl
@[simp] theorem setMsgLenHi_turnDraws (data : Word32) (s : State) : (setMsgLenHi data s).turnDraws = s.turnDraws := rfl
@[simp] theorem setMsgLenHi_wait (data : Word32) (s : State) : (setMsgLenHi data s).wait = s.wait := rfl

@[simp] theorem setIrqEn_BASE (data : Word32) (s : State) : (setIrqEn data s).BASE = s.BASE := rfl
@[simp] theorem setIrqEn_H (data : Word32) (s : State) : (setIrqEn data s).H = s.H := rfl
@[simp] theorem setIrqEn_S (data : Word32) (s : State) : (setIrqEn data s).S = s.S := rfl
@[simp] theorem setIrqEn_W (data : Word32) (s : State) : (setIrqEn data s).W = s.W := rfl
@[simp] theorem setIrqEn_M (data : Word32) (s : State) : (setIrqEn data s).M = s.M := rfl
@[simp] theorem setIrqEn_PHASE (data : Word32) (s : State) : (setIrqEn data s).PHASE = s.PHASE := rfl
@[simp] theorem setIrqEn_BLK (data : Word32) (s : State) : (setIrqEn data s).BLK = s.BLK := rfl
@[simp] theorem setIrqEn_NBLK (data : Word32) (s : State) : (setIrqEn data s).NBLK = s.NBLK := rfl
@[simp] theorem setIrqEn_J (data : Word32) (s : State) : (setIrqEn data s).J = s.J := rfl
@[simp] theorem setIrqEn_VAR (data : Word32) (s : State) : (setIrqEn data s).VAR = s.VAR := rfl
@[simp] theorem setIrqEn_DONE (data : Word32) (s : State) : (setIrqEn data s).DONE = s.DONE := rfl
@[simp] theorem setIrqEn_ERR (data : Word32) (s : State) : (setIrqEn data s).ERR = s.ERR := rfl
@[simp] theorem setIrqEn_ERRCODE (data : Word32) (s : State) : (setIrqEn data s).ERRCODE = s.ERRCODE := rfl
@[simp] theorem setIrqEn_REJ (data : Word32) (s : State) : (setIrqEn data s).REJ = s.REJ := rfl
@[simp] theorem setIrqEn_REJ_CAUSE (data : Word32) (s : State) : (setIrqEn data s).REJ_CAUSE = s.REJ_CAUSE := rfl
@[simp] theorem setIrqEn_REJ_ADDR (data : Word32) (s : State) : (setIrqEn data s).REJ_ADDR = s.REJ_ADDR := rfl
@[simp] theorem setIrqEn_REJ_DATA (data : Word32) (s : State) : (setIrqEn data s).REJ_DATA = s.REJ_DATA := rfl
@[simp] theorem setIrqEn_IRQ_EN (data : Word32) (s : State) : (setIrqEn data s).IRQ_EN = data.extractLsb' 0 3 := rfl
@[simp] theorem setIrqEn_MSG_LEN (data : Word32) (s : State) : (setIrqEn data s).MSG_LEN = s.MSG_LEN := rfl
@[simp] theorem setIrqEn_MSG (data : Word32) (s : State) : (setIrqEn data s).MSG = s.MSG := rfl
@[simp] theorem setIrqEn_DIGEST (data : Word32) (s : State) : (setIrqEn data s).DIGEST = s.DIGEST := rfl
@[simp] theorem setIrqEn_draw (data : Word32) (s : State) : (setIrqEn data s).draw = s.draw := rfl
@[simp] theorem setIrqEn_host (data : Word32) (s : State) : (setIrqEn data s).host = s.host := rfl
@[simp] theorem setIrqEn_names (data : Word32) (s : State) : (setIrqEn data s).names = s.names := rfl
@[simp] theorem setIrqEn_response (data : Word32) (s : State) : (setIrqEn data s).response = s.response := rfl
@[simp] theorem setIrqEn_turns (data : Word32) (s : State) : (setIrqEn data s).turns = s.turns := rfl
@[simp] theorem setIrqEn_turnDraws (data : Word32) (s : State) : (setIrqEn data s).turnDraws = s.turnDraws := rfl
@[simp] theorem setIrqEn_wait (data : Word32) (s : State) : (setIrqEn data s).wait = s.wait := rfl

end Sys2Proof.Machine
end

