-- ==== Sys2Proof/Laws/HostPort.lean ====
section
/-! SUPPORT. Everything the host's turn can do, once: which accesses are performed, which offset is which location, what
an executed command word can answer, and the inversion of a host turn. -/

namespace Sys2Proof.Machine

theorem accessOk_iff (off size : Nat) :
    accessOk off size = true ↔ size = 4 ∧ off % 4 = 0 ∧ off < 0x1000 + Config.MSG_CAP := by
  unfold accessOk
  rw [Bool.and_eq_true, Bool.and_eq_true, Bool.or_eq_true, beq_iff_eq, beq_iff_eq, decide_eq_true_iff,
    decide_eq_true_iff]
  unfold msgBase
  have := cap_ge
  omega

/-- Whether a location is a word of the message buffer. -/
def isMsg : Location → Bool
  | .msg _ => true
  | _ => false

/-- The offsets below the `MSG` window, all of them tried. -/
theorem locate_rows : ∀ i j : Fin 64,
    (locate (64 * i.val + j.val) = .cmd ↔ 64 * i.val + j.val = 0x004) ∧
    (locate (64 * i.val + j.val) = .msgLenLo ↔ 64 * i.val + j.val = 0x010) ∧
    (locate (64 * i.val + j.val) = .msgLenHi ↔ 64 * i.val + j.val = 0x014) ∧
    isMsg (locate (64 * i.val + j.val)) = false := by
  decide +kernel

theorem locate_low (off : Nat) (h : off < 0x1000) :
    (locate off = .cmd ↔ off = 0x004) ∧ (locate off = .msgLenLo ↔ off = 0x010) ∧
    (locate off = .msgLenHi ↔ off = 0x014) ∧ isMsg (locate off) = false := by
  have e := locate_rows ⟨off / 64, by omega⟩ ⟨off % 64, by omega⟩
  rwa [show 64 * (off / 64) + off % 64 = off by omega] at e

theorem locate_high (off : Nat) (h : 0x1000 ≤ off) : locate off = .msg (off - 0x1000) := by
  unfold locate msgBase
  rw [if_pos h]

theorem locate_cmd_iff (off : Nat) : locate off = .cmd ↔ off = 0x004 := by
  rcases Nat.lt_or_ge off 0x1000 with h | h
  · exact (locate_low off h).1
  · rw [locate_high off h]
    exact ⟨fun e => (nomatch e), fun e => by omega⟩

theorem locate_msgLenLo_iff (off : Nat) : locate off = .msgLenLo ↔ off = 0x010 := by
  rcases Nat.lt_or_ge off 0x1000 with h | h
  · exact (locate_low off h).2.1
  · rw [locate_high off h]
    exact ⟨fun e => (nomatch e), fun e => by omega⟩

theorem locate_msgLenHi_iff (off : Nat) : locate off = .msgLenHi ↔ off = 0x014 := by
  rcases Nat.lt_or_ge off 0x1000 with h | h
  · exact (locate_low off h).2.2.1
  · rw [locate_high off h]
    exact ⟨fun e => (nomatch e), fun e => by omega⟩

theorem locate_msg_iff (off a : Nat) : locate off = .msg a ↔ 0x1000 ≤ off ∧ a = off - 0x1000 := by
  rcases Nat.lt_or_ge off 0x1000 with h | h
  · have e : isMsg (locate off) = false := (locate_low off h).2.2.2
    refine ⟨fun h' => ?_, fun h' => by omega⟩
    rw [h'] at e
    cases e
  · rw [locate_high off h]
    simp [h, eq_comm]

/-- What a command does where it is legal (40_commands.md R131 to R137). -/
def performOf : Instr → State → State
  | .nop => performNop
  | .hash256 => performHash .v256
  | .hash384 => performHash .v384
  | .hash512 => performHash .v512
  | .abort => performAbort
  | .clear => performClear

/-- Every command ends in a next state: its own effect where legal, a rejection otherwise. -/
theorem exec_eq (i : Instr) (s : State) :
    exec i s = .next (if legal i s.PHASE then performOf i s else reject 2 cmdOffset (encode i) s) := by
  cases i <;> rfl

/-- The word a write access gives to `CMD`, if it does. -/
def cmdWord (off size : Nat) (data : Word32) : Option Word32 :=
  if off = cmdOffset ∧ size = 4 then some data else none

/-- The word an evaluated line writes to `CMD`, if it does. -/
def commandOf : HostAction → Option Word32
  | .wr32 off data => cmdWord off 4 data
  | .access { kind := .write data, off := off, size := size } => cmdWord off size data
  | .access { kind := .read, off := _, size := _ } => none
  | .rd32 _ _ => none
  | .poll _ _ _ => none
  | .pollnz _ _ => none

/-- The word the host's next line writes to `CMD`, if it does. -/
def nextCommand (s : State) : Option Word32 := s.host.head?.bind fun line => commandOf (lineAction s line)

/-- An operand reads only the names and the base. -/
theorem operandValue_congr (s t : State) (hn : t.names = s.names) (hb : t.BASE = s.BASE) (a : Operand) :
    operandValue t a = operandValue s a := by
  induction a with
  | num n => rfl
  | name x => simp only [operandValue, nameValue, hn, hb]
  | sum a b iha ihb => simp only [operandValue, iha, ihb]
  | mod a n ih => simp only [operandValue, ih]
  | div a n ih => simp only [operandValue, ih]

theorem writesCommand_congr (s t : State) (hh : t.host = s.host) (hn : t.names = s.names) (hb : t.BASE = s.BASE)
    (c : Word32) (rest : List HostLine) : writesCommand t c rest ↔ writesCommand s c rest := by
  unfold writesCommand
  rw [hh]
  simp only [operandValue_congr s t hn hb]

/-- In either form of a write, the next line writes `c` to `CMD` exactly when `nextCommand` says so. -/
theorem nextCommand_iff (s : State) (c : Word32) : nextCommand s = some c ↔ ∃ rest, writesCommand s c rest := by
  have hw (off size : Nat) (d : Word32) : cmdWord off size d = some c ↔ off = 0x004 ∧ size = 4 ∧ d = c := by
    unfold cmdWord cmdOffset
    split_ifs with h
    · simp [h.1, h.2]
    · simp only [false_iff]
      exact fun e => h ⟨e.1, e.2.1⟩
  unfold nextCommand writesCommand
  cases hh : s.host with
  | nil => simp
  | cons line rest =>
    cases line with
    | wr32 off data => simp [lineAction, commandOf, hw, operandWord]
    | access a =>
      obtain ⟨k, off, size⟩ := a
      cases k <;> simp [lineAction, commandOf, hw]
      tauto
    | _ => simp [lineAction, commandOf]

/-- A line that writes a word to `CMD` is a write access of 4 bytes at its offset. -/
theorem hostTurn_command (s : State) (c : Word32) (rest : List HostLine) (h : writesCommand s c rest) :
    hostTurn s = portWrite 0x004 4 c (setHost rest s) := by
  rcases h with ⟨off, data, hh, ho, hd⟩ | hh
  · unfold hostTurn performLine
    rw [hh]
    dsimp only [lineAction, operandWord]
    rw [ho, hd]
    rfl
  · unfold hostTurn
    rw [hh]
    rfl

/-- The variant of a HASH command. -/
def hashVariant : Instr → Option Variant
  | .hash256 => some .v256
  | .hash384 => some .v384
  | .hash512 => some .v512
  | .nop | .abort | .clear => none

/-- The engine's part of a host turn on the state `s`, and what the turn answers. `cmd` is the word written to `CMD`, if
one is. -/
inductive HostEffect (cmd : Option Word32) (s : State) : Result → Prop
  | same : HostEffect cmd s (.next s)
  | rejects (cause : Word32) (off : Nat) (data : Word32) (h : cause = 1 ∨ cause = 2 ∨ cause = 3) :
      HostEffect cmd s (.next (reject cause off data s))
  | hash (c : Word32) (i : Instr) (v : Variant) (hc : cmd = some c) (hd : decode c = .ok i) (hv : hashVariant i = some v)
      (h : s.busy = false) : HostEffect cmd s (.next (performHash v s))
  | abort (c : Word32) (hc : cmd = some c) (hd : decode c = .ok .abort) : HostEffect cmd s (.next (performAbort s))
  | clear (c : Word32) (hc : cmd = some c) (hd : decode c = .ok .clear) (h : s.busy = false) :
      HostEffect cmd s (.next (performClear s))
  | irqEn (data : Word32) : HostEffect cmd s (.next (setIrqEn data s))
  | lenLo (data : Word32) (h : s.busy = false) : HostEffect cmd s (.next (setMsgLenLo data s))
  | lenHi (data : Word32) (h : s.busy = false) : HostEffect cmd s (.next (setMsgLenHi data s))
  | msg (a : Nat) (data : Word32) (h4 : a % 4 = 0) (hlt : a < Config.MSG_CAP) (h : s.busy = false) :
      HostEffect cmd s (.next (msgStore a data s))

theorem exec_effect (c : Word32) (i : Instr) (s : State) (hd : decode c = .ok i) : HostEffect (some c) s (exec i s) := by
  rw [exec_eq]
  by_cases h : legal i s.PHASE = true
  · rw [if_pos h]
    cases i
    case nop => exact .same
    case abort => exact .abort c rfl hd
    case clear => exact .clear c rfl hd (by simpa [legal, State.busy] using h)
    all_goals exact .hash c _ _ rfl hd rfl (by simpa [legal, State.busy] using h)
  · rw [if_neg h]
    exact .rejects _ _ _ (.inr (.inl rfl))

theorem execute_effect (c : Word32) (s : State) : HostEffect (some c) s (execute c s) := by
  unfold execute
  cases hd : decode c with
  | error e => exact .rejects _ _ _ (.inl rfl)
  | ok i => exact exec_effect c i s hd

theorem lockedWrite_idle (off : Nat) (data : Word32) (f : State → State) (s : State) (h : s.busy = false) :
    lockedWrite off data f s = f s := by
  unfold lockedWrite
  rw [h, if_neg Bool.false_ne_true]

theorem lockedWrite_busy (off : Nat) (data : Word32) (f : State → State) (s : State) (h : s.busy = true) :
    lockedWrite off data f s = reject 3 off data s := by
  unfold lockedWrite
  rw [if_pos h]

theorem lockedWrite_effect (cmd : Option Word32) (off : Nat) (data : Word32) (f : State → State) (s : State)
    (h : s.busy = false → HostEffect cmd s (.next (f s))) : HostEffect cmd s (.next (lockedWrite off data f s)) := by
  cases hb : s.busy
  · rw [lockedWrite_idle _ _ _ _ hb]
    exact h hb
  · rw [lockedWrite_busy _ _ _ _ hb]
    exact .rejects _ _ _ (.inr (.inr rfl))

theorem hostWrite_effect (off : Nat) (data : Word32) (s : State) (h : accessOk off 4 = true) :
    HostEffect (cmdWord off 4 data) s (hostWrite off data s) := by
  have hk := (accessOk_iff off 4).1 h
  unfold hostWrite
  cases hl : locate off
  case cmd =>
    have hc : cmdWord off 4 data = some data := if_pos ⟨(locate_cmd_iff off).1 hl, rfl⟩
    rw [hc]
    exact execute_effect data s
  case irqEn => exact .irqEn data
  case msgLenLo => exact lockedWrite_effect _ _ _ _ _ fun hb => .lenLo data hb
  case msgLenHi => exact lockedWrite_effect _ _ _ _ _ fun hb => .lenHi data hb
  case msg a =>
    have := (locate_msg_iff off a).1 hl
    exact lockedWrite_effect _ _ _ _ _ fun hb => .msg a data (by omega) (by omega) hb
  all_goals exact .same

theorem portWrite_effect (off size : Nat) (data : Word32) (s : State) :
    ∃ r, HostEffect (cmdWord off size data) (respond r s) (portWrite off size data s) := by
  unfold portWrite
  by_cases h : accessOk off size = true
  · rw [if_pos h]
    have hs := ((accessOk_iff off size).1 h).1
    subst hs
    exact ⟨_, hostWrite_effect off data _ h⟩
  · rw [if_neg h]
    exact ⟨_, .same⟩

theorem performAccess_effect (a : Access) (s : State) :
    ∃ r, HostEffect (commandOf (.access a)) { s with response := some r } (performAccess a s) := by
  obtain ⟨k, off, size⟩ := a
  cases k with
  | read => exact ⟨_, .same⟩
  | write data => exact portWrite_effect off size data s

theorem pollRest_cases (holds : Bool) (line : HostLine) (rest : List HostLine) :
    pollRest holds line rest = line :: rest ∨ pollRest holds line rest = rest := by
  cases holds
  · exact .inl rfl
  · exact .inr rfl

/-- One line: the host's own record moves on, the line being taken or (a poll) kept, and the engine's part is one
`HostEffect`. -/
theorem performLine_effect (line : HostLine) (rest : List HostLine) (s : State) :
    ∃ hs ns rs, (hs = line :: rest ∨ hs = rest) ∧
      HostEffect (commandOf (lineAction s line)) { s with host := hs, names := ns, response := rs }
        (performLine line rest s) := by
  unfold performLine
  cases lineAction s line with
  | wr32 off data =>
    obtain ⟨r, h⟩ := portWrite_effect off 4 data (setHost rest s)
    exact ⟨rest, s.names, some r, .inr rfl, h⟩
  | rd32 off name => exact ⟨rest, _, _, .inr rfl, .same⟩
  | poll off mask value => exact ⟨_, s.names, _, pollRest_cases _ _ _, .same⟩
  | pollnz off mask => exact ⟨_, s.names, _, pollRest_cases _ _ _, .same⟩
  | access a =>
    obtain ⟨r, h⟩ := performAccess_effect a (setHost rest s)
    exact ⟨rest, s.names, some r, .inr rfl, h⟩

/-- A host turn: the host's own record moves on, its first line being taken or (a poll) kept, and the engine's part is one
`HostEffect`. -/
theorem hostTurn_effect (s : State) :
    ∃ hs ns rs, (hs = s.host ∨ hs = s.host.tail) ∧
      HostEffect (nextCommand s) { s with host := hs, names := ns, response := rs } (hostTurn s) := by
  unfold hostTurn nextCommand
  cases hh : s.host with
  | nil => exact ⟨s.host, s.names, s.response, .inl hh, .same⟩
  | cons line rest => exact performLine_effect line rest s

/-- What a host effect leaves alone: everything but the engine. -/
theorem HostEffect.keeps {cmd : Option Word32} {s t : State} {r : Result} (h : HostEffect cmd s r) (hr : r = .next t) :
    t.BASE = s.BASE ∧ t.draw = s.draw ∧ t.host = s.host ∧ t.turns = s.turns ∧ t.turnDraws = s.turnDraws ∧ t.wait = s.wait := by
  cases h <;> cases hr <;> exact ⟨rfl, rfl, rfl, rfl, rfl, rfl⟩

end Sys2Proof.Machine
end

