-- ==== Sys2Proof/Laws/PerInstr.lean ====
section
/-! SUPPORT. Facts of each command as syntax, one lemma per constructor: the word of a command is the word of its row of
the opcode map, its fields are well-formed, and it decodes to the command. -/

namespace Sys2Proof.Laws.Word

/-- The command word of each row of the opcode map (30_encoding.md R116), written out. -/
def rowWord : Instr → Word32
  | .nop => 0x0000_0000
  | .hash256 => 0x0000_0001
  | .hash384 => 0x0000_0101
  | .hash512 => 0x0000_0201
  | .abort => 0x0000_0002
  | .clear => 0x0000_0003

def Statement (i : Instr) : Prop :=
  encode i = rowWord i ∧ (fieldsOf i).wf = true ∧ decode (rowWord i) = .ok i

theorem nop : Statement .nop := by unfold Statement; decide

theorem hash256 : Statement .hash256 := by unfold Statement; decide

theorem hash384 : Statement .hash384 := by unfold Statement; decide

theorem hash512 : Statement .hash512 := by unfold Statement; decide

theorem abort : Statement .abort := by unfold Statement; decide

theorem clear : Statement .clear := by unfold Statement; decide

end Sys2Proof.Laws.Word
end

