-- ==== Sys2Proof/Laws/Preprocessor.lean ====
section
/-! SUPPORT. The preprocessor's arithmetic in the forms the proofs rewrite with, and big-endian byte strings. -/

namespace Sys2Proof.Machine

theorem tooLarge_iff (v : Variant) (n : Nat) : inputTooLarge v n = true ↔ 2 ^ v.Lf ≤ 8 * n := by
  unfold inputTooLarge
  rw [decide_eq_true_iff]
  rfl

theorem invalid_iff (n : Nat) : invalidInput n = true ↔ Config.MSG_CAP < n := by
  unfold invalidInput
  rw [decide_eq_true_iff]

/-- The PRE step when the bit length does not fit the length field. -/
theorem stepPre_tooLarge (s : State) (h : inputTooLarge s.VAR (messageLength s) = true) :
    stepPre s = raiseError .inputTooLarge s := by
  unfold stepPre
  rw [if_pos h]

/-- The PRE step when the message extends past the buffer. -/
theorem stepPre_invalid (s : State) (h : inputTooLarge s.VAR (messageLength s) = false)
    (h' : invalidInput (messageLength s) = true) : stepPre s = raiseError .invalidInput s := by
  unfold stepPre
  rw [h, if_neg Bool.false_ne_true, if_pos h']

/-- The PRE step when the input checks pass. -/
theorem stepPre_ok (s : State) (h : inputTooLarge s.VAR (messageLength s) = false)
    (h' : invalidInput (messageLength s) = false) :
    stepPre s = { s with
      NBLK := BitVec.ofNat 32 (blockCount s.VAR (messageLength s))
      BLK := 0
      H := initialValue s.VAR
      PHASE := .sched } := by
  unfold stepPre
  rw [h, h', if_neg Bool.false_ne_true, if_neg Bool.false_ne_true]

theorem blockCount_eq (v : Variant) (n : Nat) : blockCount v n = (8 * n + 1 + v.Lf + (v.B - 1)) / v.B := by
  cases v <;> simp only [blockCount, paddedBits, zeroBits, bitLength, Variant.B, Variant.Lf] <;> omega

theorem blockCount_pos (v : Variant) (n : Nat) : 0 < blockCount v n := by
  rw [blockCount_eq]
  cases v <;> simp only [Variant.B, Variant.Lf] <;> omega

/-- A message in the buffer has a block count that `NBLK` holds exactly. -/
theorem blockCount_lt (v : Variant) (n : Nat) (h : n ≤ Config.MSG_CAP) : blockCount v n < 2 ^ 32 := by
  have := cap_le
  rw [blockCount_eq]
  cases v <;> simp only [Variant.B, Variant.Lf] <;> omega

theorem toNat_blockCount (v : Variant) (n : Nat) (h : invalidInput n = false) :
    (BitVec.ofNat 32 (blockCount v n)).toNat = blockCount v n := by
  have hn : n ≤ Config.MSG_CAP := by
    by_contra hc
    have := (invalid_iff n).2 (by omega)
    rw [h] at this
    cases this
  rw [BitVec.toNat_ofNat, Nat.mod_eq_of_lt (blockCount_lt v n hn)]

theorem paddedByte_congr (v : Variant) (n : Nat) (mem mem' : Nat → Byte) (h : ∀ a, a < n → mem a = mem' a) (i : Nat) :
    paddedByte v n mem i = paddedByte v n mem' i := by
  simp only [paddedByte]
  split_ifs with h1 <;> first | exact h _ h1 | rfl

/-- A block reads only the message bytes below the length. -/
theorem block_congr (v : Variant) (n b : Nat) (mem mem' : Nat → Byte) (h : ∀ a, a < n → mem a = mem' a) :
    block v n mem b = block v n mem' b := by
  simp only [block, blockWord, paddedByte_congr v n mem mem' h]

theorem beNat_append (l : List Byte) (b : Byte) : beNat (l ++ [b]) = beNat l * 256 + b.toNat := by
  simp [beNat]

theorem beNat_lt (l : List Byte) : beNat l < 256 ^ l.length := by
  induction l using List.reverseRecOn with
  | nil => simp [beNat]
  | append_singleton l b ih =>
    rw [beNat_append]
    simp only [List.length_append, List.length_singleton, Nat.pow_succ]
    have := b.isLt
    omega

end Sys2Proof.Machine
end

