-- ==== Sys2Proof/Laws/Step.lean ====
section
/-! SUPPORT. Everything a step can do, once: one lemma per agent whose turn it is, and how runs are made of steps. -/

namespace Sys2Proof.Machine

theorem step_host (s : State) (h : nextTurn s = .host) : step s = hostTurn (takeTurn s) := by
  unfold step; rw [h]

theorem step_engine (s : State) (h : nextTurn s = .engine) : step s = engineTurn (takeTurn s) := by
  unfold step; rw [h]

theorem step_reset (s : State) (h : nextTurn s = .reset) : step s = .next (resetEvent (takeTurn s)) := by
  unfold step; rw [h]

theorem nextTurn_cons (s : State) (t : Turn) (rest : List Turn) (h : s.turns = t :: rest) : nextTurn s = t := by
  unfold nextTurn; rw [h]

theorem takeTurn_cons (s : State) (t : Turn) (rest : List Turn) (h : s.turns = t :: rest) :
    takeTurn s = { s with turns := rest } := by
  unfold takeTurn; rw [h]; rfl

/-- A host turn always ends in a next state. -/
theorem hostTurn_next (s : State) : ∃ t, hostTurn s = .next t := by
  obtain ⟨hs, ns, rs, -, he⟩ := hostTurn_effect s
  generalize hostTurn s = r at he ⊢
  cases he <;> exact ⟨_, rfl⟩

/-- An engine turn leaves the buffer and what is not the engine's alone. -/
theorem engineTurn_keeps (s t : State) (h : engineTurn s = .next t) :
    t.BASE = s.BASE ∧ t.draw = s.draw ∧ t.host = s.host ∧ t.names = s.names ∧ t.turns = s.turns ∧
      t.turnDraws = s.turnDraws ∧ t.wait = s.wait := by
  have hpre : (stepPre s).BASE = s.BASE ∧ (stepPre s).draw = s.draw ∧ (stepPre s).host = s.host ∧
      (stepPre s).names = s.names ∧ (stepPre s).turns = s.turns ∧ (stepPre s).turnDraws = s.turnDraws ∧
      (stepPre s).wait = s.wait := by
    unfold stepPre
    split_ifs <;> exact ⟨rfl, rfl, rfl, rfl, rfl, rfl, rfl⟩
  rcases eng_cases s with ⟨-, e⟩ | ⟨-, e⟩ | ⟨-, e⟩ | ⟨-, -, e⟩ | ⟨-, -, e⟩ | ⟨-, -, e⟩ | ⟨-, e⟩ <;> rw [e] at h <;> cases h
  case inr.inl => exact hpre
  all_goals exact ⟨rfl, rfl, rfl, rfl, rfl, rfl, rfl⟩

/-- A host turn leaves the coming turns alone, and takes its first line or keeps it. -/
theorem hostTurn_keeps (s t : State) (h : hostTurn s = .next t) :
    t.BASE = s.BASE ∧ t.draw = s.draw ∧ (t.host = s.host ∨ t.host = s.host.tail) ∧ t.turns = s.turns ∧
      t.turnDraws = s.turnDraws ∧ t.wait = s.wait := by
  obtain ⟨hs, ns, rs, hh, he⟩ := hostTurn_effect s
  obtain ⟨h1, h2, h3, h4, h5, h6⟩ := he.keeps h
  exact ⟨h1, h2, by rwa [h3], h4, h5, h6⟩

/-- What every step does to the schedule, the base and the host's lines: the turn is taken, and nothing else happens to the
coming turns; the base stays; the lines are the same or lose their first. -/
theorem step_keeps (s t : State) (h : step s = .next t) :
    t.BASE = s.BASE ∧ t.turns = (takeTurn s).turns ∧ t.turnDraws = (takeTurn s).turnDraws ∧ t.wait = (takeTurn s).wait ∧
      (t.host = s.host ∨ t.host = s.host.tail) := by
  cases hn : nextTurn s
  case host =>
    rw [step_host s hn] at h
    obtain ⟨h1, -, h3, h4, h5, h6⟩ := hostTurn_keeps _ _ h
    exact ⟨h1, h4, h5, h6, h3⟩
  case engine =>
    rw [step_engine s hn] at h
    obtain ⟨h1, -, h3, -, h4, h5, h6⟩ := engineTurn_keeps _ _ h
    exact ⟨h1, h4, h5, h6, .inl h3⟩
  case reset =>
    rw [step_reset s hn] at h
    cases h
    exact ⟨rfl, rfl, rfl, rfl, .inl rfl⟩

/-- Outside the block loop the registers are held to no function. -/
theorem computes_idle (s : State) (h : s.PHASE.counting = false) : Computes s := by
  unfold Computes
  cases hp : s.PHASE <;> rw [hp] at h
  case idle | pre | done | error => trivial
  all_goals cases h

theorem computes_asm (s : State) (hp : s.PHASE = .asm) (h : s.H = hashFinal s.VAR (messageLength s) (msgByte s)) :
    Computes s := by
  unfold Computes
  rw [hp]
  exact h

/-- One step, then the rest of the run. -/
theorem run_step (M : Host.Core) (k : Nat) (s t : M.State) (h : M.step s = .next t) : M.run (k + 1) s = M.run k t := by
  rw [Host.Core.run, h]

theorem run_succ (k : Nat) (s t : State) (h : step s = .next t) :
    Host.Core.run core (k + 1) s = Host.Core.run core k t := run_step core k s t h

/-- A run of at least one step begins with a next state. -/
theorem run_inv (M : Host.Core) (k : Nat) (s t : M.State) (h : M.run (k + 1) s = .next t) :
    ∃ u, M.step s = .next u ∧ M.run k u = .next t := by
  rw [Host.Core.run] at h
  cases hs : M.step s <;> rw [hs] at h
  · exact ⟨_, rfl, h⟩
  · cases h
  · cases h

/-- No run makes up a host line. -/
theorem run_host_mem (k : Nat) (s t : State) (h : Host.Core.run core k s = .next t) (l : HostLine) (hl : l ∈ t.host) :
    l ∈ s.host := by
  induction k generalizing s with
  | zero =>
    cases h
    exact hl
  | succ k ih =>
    obtain ⟨u, hs, h⟩ := run_inv core k s t h
    rcases (step_keeps s u hs).2.2.2.2 with e | e
    · exact e ▸ ih u h
    · exact List.mem_of_mem_tail (e ▸ ih u h)

/-- A run in two parts. -/
theorem run_parts (M : Host.Core) (j k : Nat) (s t : M.State) (h : M.run j s = .next t) : M.run (j + k) s = M.run k t := by
  induction j generalizing s with
  | zero =>
    rw [Host.Core.run] at h
    cases h
    rw [Nat.zero_add]
  | succ j ih =>
    rw [Host.Core.run] at h
    rw [Nat.succ_add, Host.Core.run]
    cases hs : M.step s <;> rw [hs] at h
    · exact ih _ h
    · cases h
    · cases h

theorem run_add (j k : Nat) (s t : State) (h : Host.Core.run core j s = .next t) :
    Host.Core.run core (j + k) s = Host.Core.run core k t := run_parts core j k s t h

end Sys2Proof.Machine
end

