-- ==== Sys2Proof/Laws/Words.lean ====
section
/-! SUPPORT. What the word operators, the storage width and the schedule do: the forms the proofs rewrite with. -/

namespace Sys2Proof.Machine

theorem addW_eq {w : Nat} (a b : BitVec w) : addW a b = a + b := by
  apply BitVec.eq_of_toNat_eq
  simp [addW, BitVec.toNat_add]

theorem widenAll_get (f : Family) {n : Nat} (xs : Vector (BitVec f.w) n) (i : Nat) (h : i < n) :
    (widenAll f xs)[i] = widen f xs[i] := by
  simp [widenAll]

theorem narrowAll_get (f : Family) {n : Nat} (xs : Vector Word64 n) (i : Nat) (h : i < n) :
    (narrowAll f xs)[i] = narrow f xs[i] := by
  simp [narrowAll]

theorem narrow_widen (f : Family) (x : BitVec f.w) : narrow f (widen f x) = x := by
  unfold narrow widen
  rw [BitVec.setWidth_setWidth_of_le _ (by cases f <;> decide), BitVec.setWidth_eq]

theorem narrow_widenAll (f : Family) {n : Nat} (xs : Vector (BitVec f.w) n) : narrowAll f (widenAll f xs) = xs := by
  ext i hi
  rw [narrowAll_get, widenAll_get, narrow_widen]

/-- A word of the 32-bit family is stored with a high half of 0. -/
theorem hiHalf_widen (x : BitVec (Family.w .f32)) : hiHalf (widen .f32 x) = 0 := by
  unfold hiHalf widen
  refine BitVec.eq_of_getLsbD_eq fun i hi => ?_
  simp only [BitVec.getLsbD_extractLsb', BitVec.getLsbD_setWidth]
  rw [BitVec.getLsbD_of_ge x (32 + i) (by simp)]
  simp

theorem schedExtend_length (f : Family) (k : Nat) (acc : List (BitVec f.w)) :
    (schedExtend f k acc).length = k + acc.length := by
  induction k generalizing acc with
  | zero => simp [schedExtend]
  | succ k ih => simp [schedExtend, ih]; omega

/-- The words so far stay below the new ones. -/
theorem schedExtend_drop (f : Family) (k : Nat) (acc : List (BitVec f.w)) : (schedExtend f k acc).drop k = acc := by
  induction k generalizing acc with
  | zero => simp [schedExtend]
  | succ k ih => rw [schedExtend, ← List.drop_drop (i := 1) (j := k), ih]; simp

theorem R_range (v : Variant) : 16 ≤ v.R ∧ v.R ≤ 80 := by cases v <;> decide

theorem schedule_length (v : Variant) (blk : Vector (BitVec v.w) 16) : (schedule v blk).length = v.R := by
  have := R_range v
  simp [schedule, schedExtend_length]
  omega

end Sys2Proof.Machine
end

