-- ==== Sys2Proof/Tests/Slice0.lean ====
section
/-! SUPPORT. The model's own tests: the well-formedness checks refuse ill-formed terms, words written out from the opcode
map decode, single steps give the spec's worked examples (cited at each test), and every statement with hypotheses has a
witness that meets them. -/

namespace Sys2Proof.Tests

open Sys2Proof.Machine Sys2Proof.Claims

/-! ## Small states -/

/-- The state a result holds, reset where it holds none. -/
def after : Result → State
  | .next t => t
  | .fault _ => State.reset
  | .refused _ => State.reset

/-- `IDLE` with the message "abc" and `MSG_LEN = n`. -/
def abcIdle (n : BitVec 64) : State :=
  { State.reset with MSG := [(0, 0x61), (1, 0x62), (2, 0x63)], MSG_LEN := n }

/-- Phase `PRE` of a HASH of variant `v`. -/
def abcPre (v : Variant) (n : BitVec 64) : State := { abcIdle n with VAR := v, PHASE := .pre }

/-- Phase `SCHED` of the one block of "abc". -/
def abcSched (v : Variant) : State := { abcPre v 3 with NBLK := 1, H := initialValue v, PHASE := .sched }

/-- Phase `COMP` of the one block of "abc" under the 256 variant, `S` the IV, at round `j`; of `W` only word 0. -/
def abcComp (j : Word32) : State :=
  { abcSched .v256 with PHASE := .comp, J := j, S := iv256, W := (Vector.replicate 80 0).set 0 0x6162_6380 }

/-- Phase `ASM` of "abc" under the 256 variant. -/
def abcAsm : State :=
  { abcSched .v256 with PHASE := .asm, BLK := 1, J := 64, H := hashFinal .v256 (messageLength (abcIdle 3)) (msgByte (abcIdle 3)) }

/-- Phase `DONE` after it. -/
def abcDone : State := stepAsm abcAsm

/-! ## Well-formedness: each check refuses an ill-formed term -/

theorem test_rsv_not_zero_refused : ({ rsv := 1, var := 0, op := 0x01 } : CommandFields).rsvOk = false := by decide
theorem test_op_reserved_refused : ({ rsv := 0, var := 0, op := 0x04 } : CommandFields).opOk = false := by decide
theorem test_hash_variant_3_refused : ({ rsv := 0, var := 3, op := 0x01 } : CommandFields).varOk = false := by decide
theorem test_nop_variant_1_refused : ({ rsv := 0, var := 1, op := 0x00 } : CommandFields).varOk = false := by decide
theorem test_ill_formed_refused :
    ({ rsv := 1, var := 0, op := 0x01 } : CommandFields).wf = false ∧
    ({ rsv := 0, var := 0, op := 0x04 } : CommandFields).wf = false ∧
    ({ rsv := 0, var := 3, op := 0x01 } : CommandFields).wf = false ∧
    ({ rsv := 0, var := 1, op := 0x00 } : CommandFields).wf = false ∧
    ({ rsv := 0, var := 2, op := 0x01 } : CommandFields).wf = true := by decide

/-! ## Decoding: words written out from 30_encoding.md R111 and R116, `RSV` 31:10, `VAR` 9:8, `OP` 7:0 -/

theorem test_decode_nop : decode 0b0000000000000000000000_00_00000000 = .ok .nop := by decide
theorem test_decode_hash256 : decode 0b0000000000000000000000_00_00000001 = .ok .hash256 := by decide
theorem test_decode_hash384 : decode 0b0000000000000000000000_01_00000001 = .ok .hash384 := by decide
theorem test_decode_hash512 : decode 0b0000000000000000000000_10_00000001 = .ok .hash512 := by decide
theorem test_decode_abort : decode 0b0000000000000000000000_00_00000010 = .ok .abort := by decide
theorem test_decode_clear : decode 0b0000000000000000000000_00_00000011 = .ok .clear := by decide
theorem test_decode_reserved :
    decode 0b0000000000000000000000_11_00000001 = .error .variantReserved ∧
    decode 0b0000000000000000000000_01_00000000 = .error .varNotZero ∧
    decode 0b1000000000000000000000_00_00000001 = .error .rsvNotZero ∧
    decode 0b0000000000000000000000_00_11111111 = .error .opReserved := by decide
theorem test_table_word : decodeTableWord 32 0x201 = some .hash512 ∧ decodeTableWord 32 0x301 = none := by decide

/-! ## Commands, one step each -/

/-- 40_commands.md R131: in `COMP` with `J = 5` every register stays. -/
theorem test_nop_in_comp : after (exec .nop (abcComp 5)) = abcComp 5 := rfl

/-- 40_commands.md R133: in `IDLE` with `MSG_LEN = 3`, `STATUS = 0x0000_0009`. -/
theorem test_hash256_status : statusWord (after (exec .hash256 (abcIdle 3))) = 0x0000_0009 := by decide

/-- From 10_state.md R55: phase 1, `BUSY`, `VAR` 1. -/
theorem test_hash384_status : statusWord (after (exec .hash384 (abcIdle 3))) = 0x0000_1009 := by decide

/-- From 10_state.md R55: phase 1, `BUSY`, `VAR` 2. -/
theorem test_hash512_status : statusWord (after (exec .hash512 (abcIdle 3))) = 0x0000_2009 := by decide

/-- 40_commands.md R140: rejected in `COMP` with cause 2, the computation as it was (R55: phase 3, `BUSY`, `REJ`). -/
theorem test_hash512_rejected_in_comp :
    statusWord (after (exec .hash512 (abcComp 5))) = 0x0000_004b ∧
    (after (exec .hash512 (abcComp 5))).REJ_CAUSE = 2 ∧ (after (exec .hash512 (abcComp 5))).REJ_ADDR = 0x004 ∧
    (after (exec .hash512 (abcComp 5))).REJ_DATA = 0x0000_0201 ∧ (after (exec .hash512 (abcComp 5))).J = 5 := by decide

/-- 40_commands.md R135: in `COMP`, ABORT gives `STATUS = 0`, `H_LO[0] = 0` and `BLOCK_IDX = 0`. -/
theorem test_abort_in_comp :
    statusWord (after (exec .abort { abcComp 5 with BLK := 1 })) = 0 ∧
    hostRead (after (exec .abort { abcComp 5 with BLK := 1 })) 0x100 = 0 ∧
    hostRead (after (exec .abort { abcComp 5 with BLK := 1 })) 0x020 = 0 ∧
    (after (exec .abort { abcComp 5 with BLK := 1 })).MSG_LEN = 3 := by decide

/-- 40_commands.md R137: in `DONE`, CLEAR gives `STATUS = 0` and keeps the result. -/
theorem test_clear_in_done :
    statusWord (after (exec .clear { abcIdle 3 with PHASE := .done, DONE := true, REJ := true, H := iv256 })) = 0 ∧
    (after (exec .clear { abcIdle 3 with PHASE := .done, DONE := true, REJ := true, H := iv256 })).H = iv256 := by decide

/-- 40_commands.md R138 (c): CLEAR while busy sets `REJ`. -/
theorem test_clear_rejected_in_pre : statusWord (after (exec .clear (abcPre .v256 3))) = 0x0000_0049 := by decide

/-- 40_commands.md R139: in `IDLE`, `0x0000_0301` gives `STATUS = 0x0000_0040` and the capture. -/
theorem test_reserved_word_rejected :
    statusWord (after (execute 0x0000_0301 State.reset)) = 0x0000_0040 ∧
    (after (execute 0x0000_0301 State.reset)).REJ_CAUSE = 1 ∧
    (after (execute 0x0000_0301 State.reset)).REJ_ADDR = 0x004 ∧
    (after (execute 0x0000_0301 State.reset)).REJ_DATA = 0x0000_0301 := by decide

/-! ## Engine steps: the spec's worked examples -/

/-- 42_preprocessor.md R186: `v = 256`, `n = 3` gives `NBLK = 1`, `H[0] = 0x6A09_E667`, `PHASE = SCHED`. -/
theorem test_pre_abc :
    (stepPre (abcPre .v256 3)).NBLK = 1 ∧ (stepPre (abcPre .v256 3)).H[0] = 0x6A09_E667 ∧
    (stepPre (abcPre .v256 3)).PHASE = .sched := by decide +kernel

/-- 95_test_vectors.md 2.2: `2^61` under the 256 variant is `InputTooLarge`, `STATUS = 0x0000_0226`. -/
theorem test_pre_too_large : statusWord (stepPre (abcPre .v256 0x2000_0000_0000_0000)) = 0x0000_0226 := by
  decide +kernel

/-- 43_scheduler.md R201: the block of "abc". -/
theorem test_sched_block :
    (stepSched (abcSched .v256)).M[0] = 0x6162_6380 ∧ (stepSched (abcSched .v256)).M[1] = 0 ∧
    (stepSched (abcSched .v256)).M[15] = 0x0000_0018 := by decide +kernel

/-- 43_scheduler.md R201: words of its schedule. -/
theorem test_sched_words :
    (stepSched (abcSched .v256)).W[17] = 0x000F_0000 ∧ (stepSched (abcSched .v256)).W[63] = 0x12B1_EDEB ∧
    (stepSched (abcSched .v256)).W[64] = 0 := by decide +kernel

/-- 95_test_vectors.md 2.3: words of the schedule under the 512 variant. -/
theorem test_sched_512 :
    (stepSched (abcSched .v512)).W[17] = 0x0003_0000_0000_00C0 ∧
    (stepSched (abcSched .v512)).W[79] = 0x92AE_EED1_A7BC_F7D2 := by decide +kernel

/-- 44_compressor.md R218: round 0 of "abc". -/
theorem test_round_0 :
    (stepRound (abcComp 0)).S = #v[0x5D6A_EBCD, 0x6A09_E667, 0xBB67_AE85, 0x3C6E_F372, 0xFA2A_4622, 0x510E_527F,
      0x9B05_688C, 0x1F83_D9AB] ∧ (stepRound (abcComp 0)).J = 1 := by decide +kernel

/-- 44_compressor.md R222: the FOLD of "abc". -/
theorem test_fold_abc :
    (stepFold { abcComp 64 with S := #v[0x506E_3058, 0, 0, 0, 0, 0, 0, 0] }).H[0] = 0xBA78_16BF ∧
    (stepFold (abcComp 64)).BLK = 1 ∧ (stepFold (abcComp 64)).PHASE = .asm := by decide +kernel

/-- 45_digest.md R238: the 256 variant with message "" gives `DIGEST_HEX[0] = 0x3062_3365` and zeros from `D[64]` on. -/
theorem test_asm_empty :
    hostRead (stepAsm { abcAsm with H := #v[0xE3B0_C442, 0, 0, 0, 0, 0, 0, 0] }) 0x200 = 0x3062_3365 ∧
    hostRead (stepAsm { abcAsm with H := #v[0xE3B0_C442, 0, 0, 0, 0, 0, 0, 0] }) 0x204 = 0x3234_3463 ∧
    hostRead (stepAsm { abcAsm with H := #v[0xE3B0_C442, 0, 0, 0, 0, 0, 0, 0] }) 0x240 = 0 := by decide +kernel

/-- 20_memory.md R94: a write of `0x6463_6261` at `0x1000` stores "abcd", which the 256 variant parses as `0x6162_6364`. -/
theorem test_mixed_width_view :
    (after (hostWrite 0x1000 0x6463_6261 State.reset)).MSG = [(0, 0x61), (1, 0x62), (2, 0x63), (3, 0x64)] ∧
    blockWord .v256 4 (msgByte (after (hostWrite 0x1000 0x6463_6261 State.reset))) 0 0 = 0x6162_6364 := by
  decide +kernel

/-- 41_word_ops.md R166, R167 and 95_test_vectors.md 2.1: the sigma functions on one word of each family. -/
theorem test_sigma_vectors :
    bigSigma0 .f32 0x89AB_CDEF = 0x2221_0003 ∧ bigSigma1 .f32 0x89AB_CDEF = 0xD631_6D8A ∧
    smallSigma0 .f32 0x89AB_CDEF = 0x3D5D_CC4C ∧ smallSigma1 .f32 0x89AB_CDEF = 0x9F68_5F13 ∧
    bigSigma0 .f64 0x0123_4567_89AB_CDEF = 0xB7C5_7A10_0C7E_C1AB ∧
    bigSigma1 .f64 0x0123_4567_89AB_CDEF = 0x7703_1123_3347_5567 ∧
    smallSigma0 .f64 0x0123_4567_89AB_CDEF = 0x6F92_C77C_6C4F_1AA1 ∧
    smallSigma1 .f64 0x0123_4567_89AB_CDEF = 0x70A3_460D_BBD4_317A := by decide

/-- Placing a command word and stepping from reset runs the command (log 11). -/
theorem test_fetch_runs : statusWord (after (step (State.reset.withFetchWord 32 0x201))) = 0x0000_2009 := by
  decide +kernel

/-- 95_test_vectors.md P3 lines 1 and 2: `rd32 0x018 -> CAP`, then `setlen CAP+1`, here with a `CAP` of 0x100: `MSG_LEN` is
0x101. -/
theorem test_named_operand :
    operandValue { State.reset with names := [("CAP", 0x100)] } (.sum (.name "CAP") (.num 1)) = 0x101 ∧
    (after (performLine ((expand (.setlen (.sum (.name "CAP") (.num 1)))).headD (.rd32 (.num 0) "")) []
      { State.reset with names := [("CAP", 0x100)] })).MSG_LEN = 0x101 := by
  decide +kernel

/-- 46_variant_config.md R258: when the wait is over, the free turn is the engine's. -/
theorem test_engine_turn_comes : nextTurn { abcComp 5 with wait := 0, turns := [] } = .engine := rfl

/-! ## The invariant of the small states -/

theorem zero_high (n : Nat) : highHalvesZero (Vector.replicate n (0 : Word64)) := by
  intro i
  simp [hiHalf]

theorem iv256_high : highHalvesZero iv256 := by
  intro i
  revert i
  decide

theorem abcW_high : highHalvesZero ((Vector.replicate 80 (0 : Word64)).set 0 0x6162_6380) := by
  intro i
  revert i
  decide +kernel

theorem abc_in_buffer (c : Host.Cell) (h : c ∈ (abcIdle 3).MSG) : c.1 < Config.MSG_CAP := by
  have := cap_ge
  simp [abcIdle] at h
  rcases h with rfl | rfl | rfl <;> dsimp only <;> omega

theorem abc_fits (v : Variant) : inputTooLarge v 3 = false ∧ invalidInput 3 = false := by
  have := cap_ge
  refine ⟨?_, ?_⟩
  · rw [Bool.eq_false_iff, Ne, tooLarge_iff]
    cases v <;> norm_num [Variant.Lf]
  · rw [Bool.eq_false_iff, Ne, invalid_iff]
    omega

theorem abcPre_inv (v : Variant) (n : BitVec 64) : Inv (abcPre v n) where
  memWf := rfl
  memInBuffer := abc_in_buffer
  done := by simp [abcPre, abcIdle, State.reset]
  err := by simp [abcPre, abcIdle, State.reset]
  errNone := fun _ => rfl
  errSome := fun h => nomatch h
  captureClear := fun _ => ⟨rfl, rfl, rfl⟩
  captureCause := fun h => nomatch h
  roundLe := Nat.zero_le _
  blockLe := Nat.zero_le _
  blockLt := by simp [abcPre]
  blockEq := by simp [abcPre]
  lengthFits := fun h => nomatch h
  blockCountIs := fun h => nomatch h
  width := fun _ => ⟨zero_high 8, zero_high 8, zero_high 80, zero_high 16⟩
  cleared := fun _ => ⟨rfl, rfl, rfl, rfl⟩
  noDigest := fun _ => rfl
  result := fun h => nomatch h

theorem abcComp_inv (j : Word32) (h : j.toNat ≤ 64) : Inv (abcComp j) where
  memWf := rfl
  memInBuffer := abc_in_buffer
  done := by simp [abcComp, abcSched, abcPre, abcIdle, State.reset]
  err := by simp [abcComp, abcSched, abcPre, abcIdle, State.reset]
  errNone := fun _ => rfl
  errSome := fun h => nomatch h
  captureClear := fun _ => ⟨rfl, rfl, rfl⟩
  captureCause := fun h => nomatch h
  roundLe := h
  blockLe := Nat.zero_le 1
  blockLt := fun _ => Nat.zero_lt_one
  blockEq := by simp [abcComp]
  lengthFits := fun _ => abc_fits .v256
  blockCountIs := fun _ => (by decide : 1 = blockCount .v256 3)
  width := fun _ => ⟨iv256_high, iv256_high, abcW_high, zero_high 16⟩
  cleared := by simp [abcComp]
  noDigest := fun _ => rfl
  result := fun h => nomatch h

theorem abcAsm_high : highHalvesZero abcAsm.H := by
  intro i
  change hiHalf (widenAll .f32 (chain .v256 (messageLength (abcIdle 3)) (msgByte (abcIdle 3))
    (blockCount .v256 (messageLength (abcIdle 3)))))[i.val] = 0
  rw [widenAll_get, hiHalf_widen]

theorem abcAsm_inv : Inv abcAsm where
  memWf := by decide
  memInBuffer := abc_in_buffer
  done := by simp [abcAsm, abcSched, abcPre, abcIdle, State.reset]
  err := by simp [abcAsm, abcSched, abcPre, abcIdle, State.reset]
  errNone := fun _ => rfl
  errSome := fun h => nomatch h
  captureClear := fun _ => ⟨rfl, rfl, rfl⟩
  captureCause := fun h => nomatch h
  roundLe := le_refl 64
  blockLe := le_refl 1
  blockLt := by simp [abcAsm]
  blockEq := fun _ => rfl
  lengthFits := fun _ => abc_fits .v256
  blockCountIs := fun _ => by decide
  width := fun _ => ⟨abcAsm_high, zero_high 8, zero_high 80, zero_high 16⟩
  cleared := by simp [abcAsm]
  noDigest := fun _ => rfl
  result := fun h => nomatch h

/-! ## Witnesses: states and operands that meet the hypotheses of each statement -/

theorem witness_DecodeAndEncodeAgree :
    Instr.hash384.wf = true ∧ decode 0x101 = .ok .hash384 := by decide

theorem witness_StepIsTheNextTurnsAction :
    nextTurn { State.reset with turns := [.host] } = .host ∧ nextTurn { State.reset with turns := [.engine] } = .engine ∧
    nextTurn { State.reset with turns := [.reset] } = .reset := by decide

/-- Both forms of a write of `CMD`; in the first the data is a name that `rd32` has bound. -/
theorem witness_StepRunsTheDecodedCommand :
    (∃ s : State, nextTurn s = .host ∧ writesCommand s 0x101 [] ∧ decode 0x101 = .ok .hash384) ∧
    (∃ s : State, nextTurn s = .host ∧ writesCommand s 0x002 [] ∧ decode 0x002 = .ok .abort) ∧
    decodeTableWord 32 0x002 = some .abort :=
  ⟨⟨{ State.reset with turns := [.host], host := [.wr32 (.num 0x004) (.name "C")], names := [("C", 0x101)] }, rfl,
      .inl ⟨_, _, rfl, rfl, rfl⟩, by decide⟩,
    ⟨{ State.reset with turns := [.host], host := [.access { kind := .write 0x002, off := 0x004, size := 4 }] }, rfl,
      .inr rfl, by decide⟩, by decide⟩

theorem witness_ReservedWordIsRejected :
    ∃ s : State, nextTurn s = .host ∧ writesCommand s 0x301 [] ∧ decode 0x301 = .error .variantReserved :=
  ⟨{ abcPre .v256 3 with turns := [.host], host := [.wr32 (.num 0x004) (.num 0x301)] }, rfl, .inl ⟨_, _, rfl, rfl, rfl⟩,
    by decide⟩

/-- Every phase meets one of the two hypotheses of the command statements. -/
theorem witness_phases :
    (notBusy (abcIdle 3) ∧ notBusy { abcIdle 3 with PHASE := .done } ∧ notBusy { abcIdle 3 with PHASE := .error }) ∧
    inBusyPhase (abcPre .v256 3) ∧ inBusyPhase (abcSched .v256) ∧ inBusyPhase (abcComp 0) ∧ inBusyPhase abcAsm :=
  ⟨⟨.inl rfl, .inr (.inl rfl), .inr (.inr rfl)⟩, .inl rfl, .inr (.inl rfl), .inr (.inr (.inl rfl)), .inr (.inr (.inr rfl))⟩

theorem witness_HashStartsOneComputation : notBusy (abcIdle 3) ∧ inBusyPhase (abcComp 64) :=
  ⟨.inl rfl, .inr (.inr (.inl rfl))⟩

theorem witness_ClearKeepsTheResult : notBusy abcDone ∧ inBusyPhase abcAsm := ⟨.inr (.inl rfl), .inr (.inr (.inr rfl))⟩

theorem witness_CommandFrames : notBusy abcDone ∧ ∃ t, exec .hash512 abcDone = .next t := ⟨.inr (.inl rfl), _, rfl⟩

theorem witness_RotateAndShiftRight : 0 < 1 ∧ 1 < 32 ∧ 63 < 64 ∧ 31 < 32 := by decide

theorem witness_ChooseSelectsByBit : ∃ w i : Nat, i < w := ⟨64, 63, by decide⟩

theorem witness_MajorityOfThreeBits : ∃ w i : Nat, i < w := ⟨32, 31, by decide⟩

/-- For the minimality of `k`: at `n = 56` the congruence is met by `k = 511` of the 256 variant. -/
theorem witness_PaddingIsMinimal :
    (8 * 56 + 1 + 511) % Variant.B .v256 = (Variant.B .v256 - Variant.Lf .v256) % Variant.B .v256 := by decide

theorem witness_BlockCountBoundary :
    1 ≤ 56 ∧ 56 % (Variant.B .v256 / 8) = Variant.B .v256 / 8 - Variant.Lf .v256 / 8 ∧
    112 % (Variant.B .v512 / 8) = Variant.B .v512 / 8 - Variant.Lf .v512 / 8 ∧
    57 % (Variant.B .v256 / 8) ≠ Variant.B .v256 / 8 - Variant.Lf .v256 / 8 := by decide

/-- The zeros of the stream: the last byte of the message, the first and the last zero, and a length that fits. -/
theorem witness_PaddedStreamLayout :
    2 < 3 ∧ 3 < 4 ∧ 4 < blockCount .v256 3 * (Variant.B .v256 / 8) - Variant.Lf .v256 / 8 ∧
    55 < blockCount .v256 3 * (Variant.B .v256 / 8) - Variant.Lf .v256 / 8 ∧ 8 * 3 < 2 ^ Variant.Lf .v256 := by decide

theorem witness_InputChecks : 2 ^ 61 - 1 < 2 ^ 64 ∧ 2 ^ 61 < 2 ^ 64 ∧ 2 ^ 64 - 1 < 2 ^ 64 := by decide

/-- The three cases of the PRE step: `2^61` bytes, `2^61 - 1` bytes and 256 bytes under the 256 variant. -/
theorem witness_PreStepChecksThenLoadsIv :
    (2 ^ (abcPre .v256 0x2000_0000_0000_0000).VAR.Lf ≤ 8 * (abcPre .v256 0x2000_0000_0000_0000).MSG_LEN.toNat) ∧
    (8 * (abcPre .v256 0x1FFF_FFFF_FFFF_FFFF).MSG_LEN.toNat < 2 ^ (abcPre .v256 0x1FFF_FFFF_FFFF_FFFF).VAR.Lf ∧
      Config.MSG_CAP < (abcPre .v256 0x1FFF_FFFF_FFFF_FFFF).MSG_LEN.toNat) ∧
    (8 * (abcPre .v256 256).MSG_LEN.toNat < 2 ^ (abcPre .v256 256).VAR.Lf ∧
      (abcPre .v256 256).MSG_LEN.toNat ≤ Config.MSG_CAP) := by
  have h1 := cap_le
  have h2 := cap_ge
  refine ⟨by decide, ⟨by decide, ?_⟩, by decide, ?_⟩
  · change Config.MSG_CAP < 0x1FFF_FFFF_FFFF_FFFF
    omega
  · change 256 ≤ Config.MSG_CAP
    omega

theorem witness_FailedChecksLeaveNoOutput :
    ∃ s : State, Inv s ∧ s.PHASE = .pre ∧ (2 ^ s.VAR.Lf ≤ 8 * s.MSG_LEN.toNat ∨ Config.MSG_CAP < s.MSG_LEN.toNat) :=
  ⟨abcPre .v256 0x2000_0000_0000_0000, abcPre_inv _ _, rfl, .inl witness_PreStepChecksThenLoadsIv.1⟩

theorem witness_ScheduleRecurrence : 16 ≤ 16 ∧ 16 < Variant.R .v256 ∧ 16 ≤ 79 ∧ 79 < Variant.R .v512 := by decide

theorem witness_SchedStepLoadsOneBlock :
    (abcSched .v256).PHASE = .sched ∧ 63 < (abcSched .v256).VAR.R ∧ (abcSched .v256).VAR.R ≤ 64 ∧ 79 < 80 := by decide

/-- A buffer that differs from "abc" at byte 3, the first byte past the length, meets the hypothesis. -/
theorem witness_EngineReadsOnlyTheMessage :
    (∀ a, a < (abcSched .v256).MSG_LEN.toNat →
      msgByte { abcSched .v256 with MSG := [(0, 0x61), (1, 0x62), (2, 0x63), (3, 0xFF)], draw := 7 } a =
        msgByte (abcSched .v256) a) ∧
    ∃ t, engineTurn (abcSched .v256) = .next t := by
  refine ⟨fun a h => ?_, _, rfl⟩
  have h : a < 3 := h
  rcases a with _ | _ | _ | a
  · rfl
  · rfl
  · rfl
  · omega

theorem witness_RoundStepUpdatesWorkingState :
    (abcComp 0).PHASE = .comp ∧ (abcComp 0).J.toNat < (abcComp 0).VAR.R ∧ (abcComp 63).J.toNat < (abcComp 63).VAR.R := by
  decide

theorem witness_FoldStepAddsWorkingState : (abcComp 64).PHASE = .comp ∧ (abcComp 64).J.toNat = (abcComp 64).VAR.R := by
  decide

theorem witness_OneBlockIsOneCompression :
    ∃ s : State, s.PHASE = .sched ∧ s.turns = List.replicate (s.VAR.R + 2) .engine ++ [] :=
  ⟨{ abcSched .v384 with turns := List.replicate 82 .engine }, rfl, rfl⟩

/-- The last digit of the last word, and the first byte after the digest, of the 384 variant. -/
theorem witness_DigestCharacters :
    5 < Variant.OW .v384 ∧ 15 < Variant.w .v384 / 4 ∧ 95 = 5 * (Variant.w .v384 / 4) + 15 ∧
    Variant.OW .v384 * (Variant.w .v384 / 4) ≤ 96 ∧ (9 : BitVec 4).toNat < 10 ∧ 10 ≤ (10 : BitVec 4).toNat := by decide

theorem witness_AsmStepWritesTheDigest : abcAsm.PHASE = .asm := rfl

theorem witness_EngineStepRelation :
    (Inv (abcPre .v256 3) ∧ (abcPre .v256 3).PHASE = .pre) ∧
    (Inv (abcComp 63) ∧ (abcComp 63).PHASE = .comp ∧ (abcComp 63).J.toNat < (abcComp 63).VAR.R) ∧
    (Inv (abcComp 64) ∧ (abcComp 64).J.toNat = (abcComp 64).VAR.R ∧
      (abcComp 64).BLK.toNat + 1 = (abcComp 64).NBLK.toNat) ∧
    (Inv abcAsm ∧ abcAsm.PHASE = .asm) :=
  ⟨⟨abcPre_inv _ _, rfl⟩, ⟨abcComp_inv _ (by decide), rfl, by decide⟩, ⟨abcComp_inv _ (by decide), rfl, by decide⟩,
    abcAsm_inv, rfl⟩

theorem witness_EngineStepsCountDown :
    (∃ s t : State, Inv s ∧ s.busy = true ∧ engineTurn s = .next t) ∧
    (∃ s : State, Inv s ∧ s.busy = true ∧ s.turns = [] ∧ s.wait = 5 ∧ s.host = expand .waitdone) :=
  ⟨⟨abcAsm, abcDone, abcAsm_inv, rfl, rfl⟩,
    { abcPre .v256 3 with wait := 5, host := expand .waitdone }, { abcPre_inv .v256 3 with }, rfl, rfl, rfl, rfl⟩

/-- While busy, a locked write and a HASH are no ABORT. -/
theorem witness_HostCannotDisturbAComputation :
    ∀ data ∈ ([0x0000_0201, 0x0000_0000] : List Nat), ∃ s : State, s.busy = true ∧
      s.host = [.wr32 (.num 0x004) (.num data)] ∧ ∀ c rest, writesCommand s c rest → decode c ≠ .ok .abort := by
  intro data hd
  refine ⟨{ abcPre .v256 3 with host := [.wr32 (.num 0x004) (.num data)] }, rfl, rfl, ?_⟩
  rintro c rest (⟨off, d, hh, -, rfl⟩ | hh)
  · simp only [List.cons.injEq, HostLine.wr32.injEq] at hh
    obtain ⟨⟨-, rfl⟩, -⟩ := hh
    dsimp only [operandValue]
    revert data
    decide
  · simp at hh

/-- "abc" under the 256 variant: 67 engine turns with a read of `STATUS` before them, then the last one. -/
theorem witness_EveryInterleavingGivesTheDigest :
    ∃ (s : State) (ts rest : List Turn),
      s.PHASE = .pre ∧ 8 * s.MSG_LEN.toNat < 2 ^ s.VAR.Lf ∧ s.MSG_LEN.toNat ≤ Config.MSG_CAP ∧
      s.turns = ts ++ .engine :: rest ∧ .reset ∉ ts ∧
      ts.count .engine + 1 = 2 + blockCount s.VAR s.MSG_LEN.toNat * (s.VAR.R + 2) ∧
      (∀ j u, j < ts.length → Host.Core.run core j s = .next u → ¬ abortsNext u) := by
  refine ⟨{ abcPre .v256 3 with
      host := [.rd32 (.num 0x008) "x"], turns := .host :: (List.replicate 67 .engine ++ [.engine]) },
    .host :: List.replicate 67 .engine, [], rfl, by decide, ?_, rfl, by decide, by decide, ?_⟩
  · have := cap_ge
    change 3 ≤ Config.MSG_CAP
    omega
  · rintro j u - hr ⟨-, c, rest, ⟨off, d, hh, -, -⟩ | hh, -⟩
    all_goals
      have hm := run_host_mem j _ u hr
      rw [hh] at hm
      have := hm _ (List.mem_cons_self)
      simp at this

/-- The step that enters `DONE`. -/
theorem witness_StepsComputeTheHash :
    ∃ s t : State, Inv s ∧ Computes s ∧ step s = .next t ∧ t.PHASE = .done ∧ s.PHASE ≠ .done := by
  refine ⟨{ abcAsm with turns := [.engine] }, abcDone, { abcAsm_inv with }, ?_, rfl, rfl, by decide⟩
  have hm : msgByte { abcAsm with turns := [.engine] } = msgByte (abcIdle 3) := by
    funext a
    unfold msgByte
    rfl
  have hn : messageLength { abcAsm with turns := [.engine] } = messageLength (abcIdle 3) := by
    unfold messageLength
    rfl
  refine computes_asm _ rfl ?_
  rw [hm, hn]
  rfl

theorem witness_RegisterWindowReads :
    (0x034 ≤ 0x034 ∧ 0x0FF < 0x100) ∧ (0x140 ≤ 0x140 ∧ 0x1FF < 0x200) ∧ (0x280 ≤ 0x280 ∧ 0xFFF < 0x1000) ∧
    (0 % 4 = 0 ∧ 0 < Config.MSG_CAP) ∧ (252 % 4 = 0 ∧ 252 < Config.MSG_CAP) := by
  have := cap_ge
  omega

theorem witness_BadAccessIsABusError :
    badAccess 0x004 2 ∧ badAccess 0x006 4 ∧ badAccess (0x1000 + Config.MSG_CAP) 4 :=
  ⟨.inl (by decide), .inr (.inl (by decide)), .inr (.inr (le_refl _))⟩

/-- The first and the last word of the window. -/
theorem witness_ReadsHaveNoSideEffect : goodOffset 0 ∧ goodOffset (0x1000 + Config.MSG_CAP - 4) := by
  have := cap_ge
  unfold goodOffset
  omega

theorem witness_WritesAreLockedWhileBusy : inBusyPhase (abcSched .v256) ∧ 0x1000 ≤ 0x1000 := ⟨.inr (.inl rfl), by decide⟩

theorem witness_MessageWriteThenRead : notBusy (abcIdle 3) ∧ outsideWord 4 3 ∧ outsideWord 4 8 ∧ 3 < 4 :=
  ⟨.inl rfl, .inl (by decide), .inr (by decide), by decide⟩

theorem witness_RegisterWrites : notBusy abcDone := .inr (.inl rfl)

theorem witness_ReadOnlyWritesAreIgnored :
    readOnlyOrReserved 0x000 ∧ readOnlyOrReserved 0x008 ∧ readOnlyOrReserved 0x018 ∧ readOnlyOrReserved 0xFFC ∧
    0xFFC % 4 = 0 :=
  ⟨.inl rfl, .inr (.inl rfl), .inr (.inr (by decide)), .inr (.inr (by decide)), by decide⟩

theorem witness_InterruptIsALevelOfTheFlags :
    (∃ t, exec .abort (abcComp 5) = .next t) ∧ notBusy abcDone ∧ (∃ t, exec .clear abcDone = .next t) ∧
    (∃ t, exec .hash256 abcDone = .next t) ∧ (∃ t, exec .hash384 abcDone = .next t) ∧
    (∃ t, exec .hash512 abcDone = .next t) ∧ (∃ t, hostWrite 0x00C 0 abcDone = .next t) :=
  ⟨⟨_, rfl⟩, .inr (.inl rfl), ⟨_, rfl⟩, ⟨_, rfl⟩, ⟨_, rfl⟩, ⟨_, rfl⟩, ⟨_, rfl⟩⟩

/-- A line of each form, the last word of the window, and an offset of each kind the port does not perform. -/
theorem witness_HostLines :
    (∀ line : HostLine, ∃ s : State, s.host = line :: []) ∧
    goodOffset (operandValue State.reset (.num 0x008)) ∧
    goodOffset (operandValue State.reset (.num (0x1000 + Config.MSG_CAP - 4))) ∧
    badAccess (operandValue State.reset (.num 0x006)) 4 ∧
    badAccess (operandValue State.reset (.num (0x1000 + Config.MSG_CAP))) 4 ∧ "x" ≠ "y" := by
  have := cap_ge
  refine ⟨fun line => ⟨{ abcIdle 3 with host := [line] }, rfl⟩, ?_, ?_, .inr (.inl (by decide)), .inr (.inr le_rfl),
    by decide⟩
  all_goals
    unfold goodOffset operandValue
    omega

/-- A host turn with `cmd` and with `waitdone`; `setlen` with the greatest length and with the operand `CAP+1` of
95_test_vectors.md P3 line 2; five bytes for `wrmsg`. -/
theorem witness_PseudoInstructionsDoTheirWork :
    (∃ s : State, nextTurn s = .host ∧ s.host = expand (.cmd .hash512) ++ []) ∧
    (∃ s : State, nextTurn s = .host ∧ s.host = expand .waitdone ++ [] ∧ s.DONE = true) ∧
    (∀ n ∈ [.num (2 ^ 64 - 1), .sum (.name "CAP") (.num 1)], ∃ (s : State) (rest : List Turn), notBusy s ∧
      operandValue s n < 2 ^ 64 ∧ s.host = expand (.setlen n) ++ [] ∧ s.turns = [.host, .host] ++ rest) ∧
    (∃ (s : State) (rest : List Turn), notBusy s ∧ [0x61, 0x62, 0x63, 0x64, 0x65].length ≤ Config.MSG_CAP ∧
      s.host = expand (.wrmsg [0x61, 0x62, 0x63, 0x64, 0x65]) ++ [] ∧
      s.turns = List.replicate (([0x61, 0x62, 0x63, 0x64, 0x65].length + 3) / 4) .host ++ rest) := by
  have := cap_ge
  refine ⟨⟨{ abcIdle 3 with host := expand (.cmd .hash512), turns := [.host] }, rfl, (List.append_nil _).symm⟩,
    ⟨{ abcDone with host := expand .waitdone, turns := [.host] }, rfl, (List.append_nil _).symm, rfl⟩, fun n hn => ?_,
    { abcIdle 3 with host := expand (.wrmsg [0x61, 0x62, 0x63, 0x64, 0x65]), turns := [.host, .host] }, [],
    .inl rfl, ?_, (List.append_nil _).symm, rfl⟩
  · refine ⟨{ abcIdle 3 with host := expand (.setlen n), turns := [.host, .host], names := [("CAP", 0x100)] }, [], .inl rfl,
      ?_, (List.append_nil _).symm, rfl⟩
    simp only [List.mem_cons, List.not_mem_nil, or_false] at hn
    rcases hn with rfl | rfl <;> decide
  · simp only [List.length_cons, List.length_nil]
    omega

theorem witness_ResetTurnRestoresResetValues : ∃ s : State, s.PHASE = .comp ∧ s.turns = .reset :: [] :=
  ⟨{ abcComp 5 with turns := [.reset] }, rfl, rfl⟩

/-- A state that meets the invariant is not only the reset state. -/
theorem witness_EveryStepKeepsTheInvariant : ∃ s t : State, Inv s ∧ s.PHASE = .comp ∧ step s = .next t := by
  refine ⟨{ abcComp 64 with turns := [.engine] }, _, { abcComp_inv 64 (by decide) with }, rfl, rfl⟩

theorem witness_RunsAreSafe : ∃ s : State, Inv s ∧ s.PHASE = .comp := ⟨abcComp 0, abcComp_inv 0 (by decide), rfl⟩

/-- The one position that faults, which no run reaches. -/
theorem witness_TheOnlyFault :
    step { abcComp 65 with turns := [.engine] } = .fault .internalInvariantViolation := rfl

theorem witness_MemoryIsCanonical :
    Memory.wf [(1, 0x61), (4, 0x62)] = true ∧ Memory.wf [(4, 0x62), (1, 0x61)] = false ∧ (3 : Nat) ≠ 4 ∧
    ∀ a, Memory.lookup a (Memory.store 1 0x61 []) = Memory.lookup a [(1, 0x61)] :=
  ⟨by decide, by decide, by decide, fun _ => rfl⟩

/-- A CLEAR in the host's turn, and an engine turn while an ABORT waits. -/
theorem witness_ResultStaysUntilHashOrAbort :
    (∃ s t : State, s.PHASE = .done ∧ step s = .next t ∧ nextTurn s = .host ∧ writesCommand s 3 [] ∧
      decode 3 = .ok .clear) ∧
    (∃ s t : State, s.PHASE = .done ∧ step s = .next t ∧ nextTurn s = .engine ∧ writesCommand s 2 []) :=
  ⟨⟨{ abcDone with turns := [.host], host := [.wr32 (.num 0x004) (.num 3)] }, _, rfl, rfl, rfl,
      .inl ⟨_, _, rfl, rfl, rfl⟩, by decide⟩,
    { abcDone with turns := [.engine], host := [.wr32 (.num 0x004) (.num 2)] }, _, rfl, rfl, rfl,
    .inl ⟨_, _, rfl, rfl, rfl⟩⟩

/-- Two instances, the second at `2^32`, the last byte of its window, and a step of it. -/
theorem witness_InstancesShareNothing :
    platformWf (platformReset [0, 2 ^ 32]) ∧
    (platformReset [0, 2 ^ 32])[1]? = some { State.reset with BASE := 2 ^ 32 } ∧ windowSize - 1 < windowSize ∧
    ∃ q, platformStep 1 (platformReset [0, 2 ^ 32]) = .next q := by
  have h1 := cap_le
  have h2 := cap_ge
  have hw : windowSize ≤ 2 ^ 32 := by
    unfold windowSize msgBase
    omega
  refine ⟨⟨by simp [platformReset], fun x hx => ⟨32, hw, ?_⟩, ?_⟩, rfl, ?_, _, rfl⟩
  · simp [platformReset] at hx
    rcases hx with rfl | rfl <;> norm_num
  · simp only [platformReset, List.map_cons, List.map_nil, List.pairwise_cons, List.mem_singleton, forall_eq,
      List.not_mem_nil, false_implies, implies_true, List.Pairwise.nil, and_true]
    unfold windowsDisjoint
    omega
  · unfold windowSize msgBase
    omega

end Sys2Proof.Tests
end

section
/-! Words kept in the 256 variant's width (10_state.md R30), and what the invariant says of one agent's action at a time:
the host's own record, each effect of a host turn, each engine step, the reset event. `Inv` survives each, so it survives
every step. -/

namespace Sys2Proof.Machine

/-! ### High halves of the register files -/

theorem highHalvesZero_replicate (n : Nat) : highHalvesZero (Vector.replicate n (0 : Word64)) := by
  intro i
  simp [hiHalf]

theorem highHalvesZero_cleared :
    highHalvesZero (Vector.replicate 8 (0 : Word64)) ∧ highHalvesZero (Vector.replicate 8 (0 : Word64)) ∧
      highHalvesZero (Vector.replicate 80 (0 : Word64)) ∧ highHalvesZero (Vector.replicate 16 (0 : Word64)) :=
  ⟨highHalvesZero_replicate 8, highHalvesZero_replicate 8, highHalvesZero_replicate 80, highHalvesZero_replicate 16⟩

theorem highHalvesZero_widenAll {v : Variant} (hv : v = .v256) {n : Nat} (xs : Vector (BitVec v.w) n) :
    highHalvesZero (widenAll v.family xs) := by
  subst hv
  intro i
  exact (congrArg hiHalf (widenAll_get .f32 xs i i.isLt)).trans (hiHalf_widen _)

theorem highHalvesZero_scheduleFile {v : Variant} (hv : v = .v256) (blk : Vector (BitVec v.w) 16) :
    highHalvesZero (scheduleFile v blk) := by
  subst hv
  intro i
  simp only [scheduleFile, Fin.getElem_fin, Vector.getElem_ofFn]
  exact hiHalf_widen _

theorem highHalvesZero_initialValue {v : Variant} (hv : v = .v256) : highHalvesZero (initialValue v) := by
  subst hv
  unfold highHalvesZero
  decide

/-! ### Phases and flags -/

theorem counting_eq_false_of_busy_eq_false {p : Phase} (h : p.busy = false) : p.counting = false := by
  cases p
  case idle | pre | done | error => rfl
  case sched | comp | asm => cases h

theorem Inv.done_eq_false {s : State} (h : Inv s) (hp : s.PHASE ≠ .done) : s.DONE = false :=
  Bool.eq_false_iff.2 fun hd => hp (h.done.1 hd)

theorem Inv.err_eq_false {s : State} (h : Inv s) (hp : s.PHASE ≠ .error) : s.ERR = false :=
  Bool.eq_false_iff.2 fun he => hp (h.err.1 he)

/-! ### What is not the engine's -/

theorem Inv.takeTurn {s : State} (h : Inv s) : Inv (takeTurn s) := { h with }

theorem Inv.hostRecord {s : State} (h : Inv s) (hs : List HostLine) (ns : List (String × Word32)) (r : Option Response) :
    Inv { s with host := hs, names := ns, response := r } := { h with }

/-! ### The host's effects -/

theorem Inv.reject {s : State} (h : Inv s) {cause : Word32} (hc : cause = 1 ∨ cause = 2 ∨ cause = 3) (off : Nat)
    (data : Word32) : Inv (reject cause off data s) :=
  { h with
    captureClear := fun hr => nomatch hr
    captureCause := fun _ => by
      cases hr : s.REJ
      · simpa [Machine.reject, hr] using hc
      · simpa [Machine.reject, hr] using h.captureCause hr }

theorem Inv.clearRejection {s : State} (h : Inv s) : Inv (clearRejection s) :=
  { h with
    captureClear := by simp
    captureCause := by simp }

/-- Every register of the computation cleared, at either of the phases a command then enters. -/
theorem Inv.clearComputation {s : State} (h : Inv s) (v : Variant) {p : Phase} (hp : p = .idle ∨ p = .pre) :
    Inv { clearComputation s with VAR := v, PHASE := p } :=
  have ⟨hcount, hdone, herror⟩ : p.counting = false ∧ p ≠ .done ∧ p ≠ .error := by rcases hp with rfl | rfl <;> decide
  { h with
    done := by simp [hdone]
    err := by simp [herror]
    errNone := by simp
    errSome := by simp
    roundLe := Nat.zero_le _
    blockLe := by simp
    blockLt := by rcases hp with rfl | rfl <;> simp
    blockEq := by simp
    lengthFits := by simp [hcount]
    blockCountIs := by simp [hcount]
    width := fun _ => highHalvesZero_cleared
    cleared := by simp
    noDigest := by simp
    result := by simp [hdone] }

theorem Inv.performHash {s : State} (h : Inv s) (v : Variant) : Inv (performHash v s) :=
  h.clearComputation v (.inr rfl)

theorem Inv.performAbort {s : State} (h : Inv s) : Inv (performAbort s) :=
  (h.clearComputation .v256 (.inl rfl)).clearRejection

/-- Leaving a finished or failed computation for `IDLE` keeps its registers. -/
theorem Inv.clearOutcome {s : State} (h : Inv s) : Inv { clearOutcome s with PHASE := .idle } :=
  { h with
    done := by simp
    err := by simp
    errNone := by simp
    errSome := by simp
    blockLt := by simp
    blockEq := by simp
    lengthFits := fun hp => nomatch hp
    blockCountIs := fun hp => nomatch hp
    cleared := by simp
    noDigest := by simp [Phase.busy]
    result := by simp }

theorem Inv.performClear {s : State} (h : Inv s) : Inv (performClear s) := h.clearOutcome.clearRejection

theorem Inv.setIrqEn {s : State} (h : Inv s) (data : Word32) : Inv (setIrqEn data s) := { h with }

theorem Inv.withMsgLen {s : State} (h : Inv s) (hb : s.busy = false) (n : BitVec 64) : Inv { s with MSG_LEN := n } :=
  have hc : s.PHASE.counting = false := counting_eq_false_of_busy_eq_false hb
  { h with
    lengthFits := fun hp => absurd (hc.symm.trans hp) Bool.false_ne_true
    blockCountIs := fun hp => absurd (hc.symm.trans hp) Bool.false_ne_true }

theorem Inv.msgStore {s : State} (h : Inv s) {a : Nat} (h4 : a % 4 = 0) (hlt : a < Config.MSG_CAP) (data : Word32) :
    Inv (msgStore a data s) :=
  { h with
    memWf := storeWord_wf _ _ _ h.memWf
    memInBuffer := fun c hc => by
      rcases mem_storeWord _ _ _ _ hc with hw | hm
      · have := cap_ge
        omega
      · exact h.memInBuffer c hm }

/-- Every effect of a host turn keeps the invariant. -/
theorem HostEffect.inv {cmd : Option Word32} {s t : State} (h : HostEffect cmd s (.next t)) (hi : Inv s) : Inv t := by
  cases h
  case same => exact hi
  case rejects cause off data hc => exact hi.reject hc off data
  case hash v _ _ _ _ => exact hi.performHash v
  case abort => exact hi.performAbort
  case clear => exact hi.performClear
  case irqEn data => exact hi.setIrqEn data
  case lenLo data hb => exact hi.withMsgLen hb _
  case lenHi data hb => exact hi.withMsgLen hb _
  case msg a data h4 hlt _ => exact hi.msgStore h4 hlt data

theorem hostTurn_inv {s t : State} (hi : Inv s) (h : hostTurn s = .next t) : Inv t := by
  obtain ⟨hs, ns, rs, -, he⟩ := hostTurn_effect s
  rw [h] at he
  exact he.inv (hi.hostRecord hs ns rs)

/-! ### The engine's steps -/

theorem Inv.raiseError {s : State} (h : Inv s) (hp : s.PHASE = .pre) {code : ErrCode}
    (hc : code = .invalidInput ∨ code = .inputTooLarge) : Inv (raiseError code s) :=
  { h with
    done := by simp [h.done_eq_false, hp]
    err := by simp
    errNone := by simp
    errSome := fun _ => hc
    blockLt := by simp
    blockEq := by simp
    lengthFits := fun hp => nomatch hp
    blockCountIs := fun hp => nomatch hp
    cleared := fun _ => h.cleared (.inl hp)
    noDigest := fun _ => h.noDigest (.inl (by rw [hp]; rfl))
    result := by simp }

/-- The PRE step when the input checks pass: the block count is the message's own, and at least 1. -/
theorem Inv.stepPre_ok {s : State} (h : Inv s) (hp : s.PHASE = .pre)
    (hl : inputTooLarge s.VAR (messageLength s) = false) (hc : invalidInput (messageLength s) = false) :
    Inv (stepPre s) := by
  have hn := toNat_blockCount s.VAR _ hc
  have hpos := blockCount_pos s.VAR (messageLength s)
  rw [Machine.stepPre_ok s hl hc]
  exact
  { h with
    done := by simp [h.done_eq_false, hp]
    err := by simp [h.err_eq_false, hp]
    blockLe := Nat.zero_le _
    blockLt := fun _ => hn.symm ▸ hpos
    blockEq := by simp
    lengthFits := fun _ => ⟨hl, hc⟩
    blockCountIs := fun _ => hn
    width := fun hv => ⟨highHalvesZero_initialValue hv, (h.width hv).2⟩
    cleared := by simp
    noDigest := fun _ => h.noDigest (.inl (by rw [hp]; rfl))
    result := by simp }

theorem Inv.stepPre {s : State} (h : Inv s) (hp : s.PHASE = .pre) : Inv (stepPre s) := by
  cases hl : inputTooLarge s.VAR (messageLength s)
  case true =>
    rw [stepPre_tooLarge s hl]
    exact h.raiseError hp (.inr rfl)
  case false =>
    cases hc : invalidInput (messageLength s)
    case true =>
      rw [stepPre_invalid s hl hc]
      exact h.raiseError hp (.inl rfl)
    case false => exact h.stepPre_ok hp hl hc

theorem Inv.stepSched {s : State} (h : Inv s) (hp : s.PHASE = .sched) : Inv (stepSched s) :=
  have hcount : s.PHASE.counting = true := by rw [hp]; rfl
  { h with
    done := by simp [Machine.stepSched, h.done_eq_false, hp]
    err := by simp [Machine.stepSched, h.err_eq_false, hp]
    roundLe := Nat.zero_le _
    blockLt := fun _ => h.blockLt (.inl hp)
    blockEq := by simp [Machine.stepSched]
    lengthFits := fun _ => h.lengthFits hcount
    blockCountIs := fun _ => h.blockCountIs hcount
    width := fun hv =>
      ⟨(h.width hv).1, (h.width hv).1, highHalvesZero_scheduleFile hv _, highHalvesZero_widenAll hv _⟩
    cleared := by simp [Machine.stepSched]
    noDigest := fun _ => h.noDigest (.inl (by rw [hp]; rfl))
    result := by simp [Machine.stepSched] }

theorem Inv.stepRound {s : State} (h : Inv s) (hp : s.PHASE = .comp) (hj : s.J.toNat < s.VAR.R) : Inv (stepRound s) :=
  { h with
    roundLe := by
      have := R_range s.VAR
      simp only [Machine.stepRound]
      bv_omega
    width := fun hv =>
      have ⟨hH, _, hW, hM⟩ := h.width hv
      ⟨hH, highHalvesZero_widenAll hv _, hW, hM⟩
    cleared := by simp [Machine.stepRound, hp] }

/-- The FOLD step goes on with the next block, or leaves the block loop when that was the last one. -/
theorem stepFold_phase {s : State} (hlt : s.BLK.toNat < s.NBLK.toNat) :
    ((stepFold s).PHASE = .sched ∧ (stepFold s).BLK.toNat < s.NBLK.toNat) ∨
      ((stepFold s).PHASE = .asm ∧ (stepFold s).BLK = s.NBLK) := by
  by_cases hc : s.BLK + 1 < s.NBLK
  · exact .inl ⟨if_pos hc, hc⟩
  · refine .inr ⟨if_neg hc, ?_⟩
    simp only [stepFold]
    bv_omega

theorem Inv.stepFold {s : State} (h : Inv s) (hp : s.PHASE = .comp) : Inv (stepFold s) := by
  have hphase := stepFold_phase (h.blockLt (.inr hp))
  have hD : (Machine.stepFold s).DONE = false := h.done_eq_false (by simp [hp])
  have hE : (Machine.stepFold s).ERR = false := h.err_eq_false (by simp [hp])
  have hcount : s.PHASE.counting = true := by rw [hp]; rfl
  have ⟨hpre, hdone, herror⟩ : (Machine.stepFold s).PHASE ≠ .pre ∧ (Machine.stepFold s).PHASE ≠ .done ∧
      (Machine.stepFold s).PHASE ≠ .error := by
    rcases hphase with ⟨e, -⟩ | ⟨e, -⟩ <;> simp [e]
  exact
  { h with
    done := by simp [hD, hdone]
    err := by simp [hE, herror]
    blockLe := by
      rcases hphase with ⟨-, hb⟩ | ⟨-, hb⟩
      · exact hb.le
      · exact (congrArg BitVec.toNat hb).le
    blockLt := by
      rcases hphase with ⟨-, hb⟩ | ⟨e, -⟩
      · exact fun _ => hb
      · simp [e]
    blockEq := by
      rcases hphase with ⟨e, -⟩ | ⟨-, hb⟩
      · simp [e]
      · exact fun _ => hb
    lengthFits := fun _ => h.lengthFits hcount
    blockCountIs := fun _ => h.blockCountIs hcount
    width := fun hv => ⟨highHalvesZero_widenAll hv _, (h.width hv).2⟩
    cleared := by simp [hpre, herror]
    noDigest := fun _ => h.noDigest (.inl (by rw [hp]; rfl))
    result := by simp [hdone] }

theorem Inv.stepAsm {s : State} (h : Inv s) (hp : s.PHASE = .asm) : Inv (stepAsm s) :=
  { h with
    done := by simp [Machine.stepAsm]
    err := by simp [Machine.stepAsm, h.err_eq_false, hp]
    blockLt := by simp [Machine.stepAsm]
    blockEq := fun _ => h.blockEq (.inl hp)
    lengthFits := fun hp => nomatch hp
    blockCountIs := fun hp => nomatch hp
    cleared := by simp [Machine.stepAsm]
    noDigest := by simp [Machine.stepAsm, Phase.busy]
    result := fun _ => rfl }

theorem engineTurn_inv {s t : State} (hi : Inv s) (h : engineTurn s = .next t) : Inv t := by
  rcases eng_cases s with ⟨-, e⟩ | ⟨hp, e⟩ | ⟨hp, e⟩ | ⟨hp, hj, e⟩ | ⟨hp, -, e⟩ | ⟨-, -, e⟩ | ⟨hp, e⟩ <;>
    rw [e] at h <;> cases h
  · exact hi
  · exact hi.stepPre hp
  · exact hi.stepSched hp
  · exact hi.stepRound hp hj
  · exact hi.stepFold hp
  · exact hi.stepAsm hp

/-! ### Reset -/

theorem reset_inv : Inv State.reset where
  memWf := rfl
  memInBuffer := fun c hc => nomatch hc
  done := by simp [State.reset]
  err := by simp [State.reset]
  errNone := fun _ => rfl
  errSome := fun he => nomatch he
  captureClear := fun _ => ⟨rfl, rfl, rfl⟩
  captureCause := fun hr => nomatch hr
  roundLe := Nat.zero_le _
  blockLe := Nat.zero_le _
  blockLt := by simp [State.reset]
  blockEq := by simp [State.reset]
  lengthFits := fun hp => nomatch hp
  blockCountIs := fun hp => nomatch hp
  width := fun _ => highHalvesZero_cleared
  cleared := fun _ => ⟨rfl, rfl, rfl, rfl⟩
  noDigest := fun _ => rfl
  result := by simp [State.reset]

theorem resetEvent_inv (s : State) : Inv (resetEvent s) := { reset_inv with }

theorem step_inv {s t : State} (hi : Inv s) (h : step s = .next t) : Inv t := by
  cases hn : nextTurn s
  case host => exact hostTurn_inv hi.takeTurn (step_host s hn ▸ h)
  case engine => exact engineTurn_inv hi.takeTurn (step_engine s hn ▸ h)
  case reset =>
    rw [step_reset s hn] at h
    cases h
    exact resetEvent_inv _

/-- Settles O55: each agent's action keeps the invariant. -/
theorem everyStepKeepsTheInvariant : Obligations.EveryStepKeepsTheInvariant := by
  unfold Obligations.EveryStepKeepsTheInvariant
  exact fun s t => step_inv

end Sys2Proof.Machine
end

section
/-! The register window (10_state.md R52 to R65): which offset is which register, what a read and a write of it do, and the
command write of the host's turn (R62). -/

open Sys2Proof.Claims

namespace Sys2Proof.Machine

/-! ### Phases and rejections as the statements write them -/

theorem busy_iff_inBusyPhase (s : State) : s.busy = true ↔ inBusyPhase s := by
  unfold State.busy inBusyPhase
  cases s.PHASE <;> decide

theorem busy_eq_false_iff_notBusy (s : State) : s.busy = false ↔ notBusy s := by
  unfold State.busy notBusy
  cases s.PHASE <;> decide

theorem reject_eq_rejected (cause : Word32) (off : Nat) (data : Word32) (s : State) :
    reject cause off data s = rejected cause off data s := by
  unfold reject rejected
  cases s.REJ <;> rfl

/-! ### Offsets -/

/-- In the chain of `locate` the only branch that answers `irqEn` is the one at its offset. -/
theorem locate_irqEn_iff (off : Nat) : locate off = .irqEn ↔ off = 0x00c := by
  refine ⟨fun h => ?_, fun h => h ▸ rfl⟩
  simp only [locate, ite_eq_iff, reduceCtorEq, and_false, and_true, false_or, or_false] at h
  omega

theorem locate_hLo (i : Fin 8) : locate (0x100 + 8 * i.val) = .hLo i := by
  revert i
  decide

theorem locate_hHi (i : Fin 8) : locate (0x104 + 8 * i.val) = .hHi i := by
  revert i
  decide

theorem locate_digestHex (k : Fin 32) : locate (0x200 + 4 * k.val) = .digestHex k := by
  revert k
  decide

theorem locate_reserved (off : Nat)
    (h : (0x034 ≤ off ∧ off < 0x100) ∨ (0x140 ≤ off ∧ off < 0x200) ∨ (0x280 ≤ off ∧ off < 0x1000)) :
    locate off = .reserved := by
  unfold locate msgBase cmdOffset
  iterate 16 rw [if_neg (by omega)]

/-! ### Reads -/

theorem hostRead_of_locate {off : Nat} {l : Location} (h : locate off = l) (s : State) :
    hostRead s off = readLocation s l := by
  rw [hostRead, h]

/-- Settles O41: each offset is located, and the location's word is the one the map gives. -/
theorem registerWindowReads : Obligations.RegisterWindowReads := by
  unfold Obligations.RegisterWindowReads
  intro s
  refine ⟨rfl, rfl, rfl, rfl, rfl, rfl, capConstant_toNat, rfl, rfl, rfl, rfl, rfl, rfl, fun i => ⟨?_, ?_⟩, fun k => ?_,
    fun off h => ?_, fun a _ _ => ?_⟩
  · exact hostRead_of_locate (locate_hLo i) s
  · exact hostRead_of_locate (locate_hHi i) s
  · exact hostRead_of_locate (locate_digestHex k) s
  · exact hostRead_of_locate (locate_reserved off h) s
  · have hl := locate_high (0x1000 + a) (Nat.le_add_right _ _)
    rw [Nat.add_sub_cancel_left] at hl
    exact hostRead_of_locate hl s

/-! ### The fields of `STATUS` (R55) -/

theorem statusWord_phase (s : State) : (statusWord s).extractLsb' 0 3 = s.PHASE.code :=
  BitVec.extractLsb'_append_eq_right

theorem statusWord_errCode (s : State) : (statusWord s).extractLsb' 8 3 = s.ERRCODE.code := by
  unfold statusWord
  iterate 6 rw [BitVec.extractLsb'_append_eq_of_le (by decide)]
  exact BitVec.extractLsb'_append_eq_right

theorem statusWord_var (s : State) : (statusWord s).extractLsb' 12 2 = s.VAR.code := by
  unfold statusWord
  iterate 8 rw [BitVec.extractLsb'_append_eq_of_le (by decide)]
  exact BitVec.extractLsb'_append_eq_right

theorem statusWord_reserved (s : State) : (statusWord s).extractLsb' 14 18 = 0 := by
  unfold statusWord
  iterate 8 rw [BitVec.extractLsb'_append_eq_of_le (by decide)]
  exact BitVec.extractLsb'_append_eq_left

theorem statusWord_busy (s : State) : (statusWord s).getLsbD 3 = s.busy := by
  simp only [statusWord, BitVec.getLsbD_append]
  simp

theorem statusWord_bits (s : State) :
    (statusWord s).getLsbD 4 = s.DONE ∧ (statusWord s).getLsbD 5 = s.ERR ∧ (statusWord s).getLsbD 6 = s.REJ ∧
      (statusWord s).getLsbD 7 = false ∧ (statusWord s).getLsbD 11 = false := by
  simp only [statusWord, BitVec.getLsbD_append]
  simp

/-- Settles O42: each field of the word is cut out of it by its position, and its code read off. -/
theorem statusFields : Obligations.StatusFields := by
  unfold Obligations.StatusFields
  intro s
  obtain ⟨hdone, herr, hrej, hbit7, hbit11⟩ := statusWord_bits s
  refine ⟨rfl, ?_, ?_, hdone, herr, hrej, hbit7, ?_, hbit11, ?_, statusWord_reserved s⟩
  · rw [statusWord_phase]
    cases s.PHASE <;> rfl
  · rw [statusWord_busy]
    exact busy_iff_inBusyPhase s
  · rw [statusWord_errCode]
    cases s.ERRCODE <;> rfl
  · rw [statusWord_var]
    cases s.VAR <;> rfl

/-! ### Writes -/

theorem hostWrite_irqEn (data : Word32) (s : State) : hostWrite 0x00c data s = .next (setIrqEn data s) := rfl

theorem hostWrite_msgLenLo (data : Word32) (s : State) :
    hostWrite 0x010 data s = .next (lockedWrite 0x010 data (setMsgLenLo data) s) := rfl

theorem hostWrite_msgLenHi (data : Word32) (s : State) :
    hostWrite 0x014 data s = .next (lockedWrite 0x014 data (setMsgLenHi data) s) := rfl

theorem hostWrite_msg {off : Nat} (h : 0x1000 ≤ off) (data : Word32) (s : State) :
    hostWrite off data s = .next (lockedWrite off data (msgStore (off - 0x1000) data) s) := by
  rw [hostWrite, locate_high off h]

/-- Settles O45: each of the three locked locations is written through `lockedWrite`. -/
theorem writesAreLockedWhileBusy : Obligations.WritesAreLockedWhileBusy := by
  unfold Obligations.WritesAreLockedWhileBusy
  intro off data s hp hoff
  have hb : s.busy = true := (busy_iff_inBusyPhase s).2 hp
  rw [← reject_eq_rejected]
  rcases hoff with rfl | rfl | h
  · rw [hostWrite_msgLenLo, lockedWrite_busy _ _ _ _ hb]
  · rw [hostWrite_msgLenHi, lockedWrite_busy _ _ _ _ hb]
  · rw [hostWrite_msg h, lockedWrite_busy _ _ _ _ hb]

/-- Settles O48: none of the five locations a write acts on has such an offset. -/
theorem readOnlyWritesAreIgnored : Obligations.ReadOnlyWritesAreIgnored := by
  unfold Obligations.ReadOnlyWritesAreIgnored readOnlyOrReserved
  intro off data s _ hoff
  unfold hostWrite
  cases hl : locate off
  case cmd =>
    have := (locate_cmd_iff off).1 hl
    omega
  case irqEn =>
    have := (locate_irqEn_iff off).1 hl
    omega
  case msgLenLo =>
    have := (locate_msgLenLo_iff off).1 hl
    omega
  case msgLenHi =>
    have := (locate_msgLenHi_iff off).1 hl
    omega
  case msg a =>
    have := (locate_msg_iff off a).1 hl
    omega
  all_goals rfl

theorem loHalf_setLo (x : Word64) (d : Word32) : loHalf (setLo x d) = d := BitVec.extractLsb'_append_eq_right

theorem hiHalf_setLo (x : Word64) (d : Word32) : hiHalf (setLo x d) = hiHalf x := BitVec.extractLsb'_append_eq_left

theorem hiHalf_setHi (x : Word64) (d : Word32) : hiHalf (setHi x d) = d := BitVec.extractLsb'_append_eq_left

theorem loHalf_setHi (x : Word64) (d : Word32) : loHalf (setHi x d) = loHalf x := BitVec.extractLsb'_append_eq_right

/-- Settles O47: `IRQ_EN` is not locked, and `setLo` and `setHi` replace one half of `MSG_LEN` and keep the other. -/
theorem registerWrites : Obligations.RegisterWrites := by
  unfold Obligations.RegisterWrites
  intro data s
  refine ⟨hostWrite_irqEn data s, rfl, fun hp => ?_⟩
  have hb : s.busy = false := (busy_eq_false_iff_notBusy s).2 hp
  constructor
  · refine ⟨setLo s.MSG_LEN data, ?_, loHalf_setLo _ _, hiHalf_setLo _ _⟩
    rw [hostWrite_msgLenLo, lockedWrite_idle _ _ _ _ hb, setMsgLenLo]
  · refine ⟨setHi s.MSG_LEN data, ?_, hiHalf_setHi _ _, loHalf_setHi _ _⟩
    rw [hostWrite_msgLenHi, lockedWrite_idle _ _ _ _ hb, setMsgLenHi]

/-! ### The command write of the host's turn -/

theorem hostWrite_cmd (c : Word32) (s : State) : hostWrite 0x004 c s = execute c s := rfl

theorem execute_of_decode {c : Word32} {i : Instr} (hd : decode c = .ok i) (s : State) : execute c s = exec i s := by
  rw [execute, hd]

/-- A 4-byte write of `CMD` is always performed, so it executes its word after the port's answer. -/
theorem portWrite_cmd (c : Word32) (s : State) :
    portWrite 0x004 4 c s = execute c (respond { busError := false, data := none } s) := by
  have hok : accessOk 0x004 4 = true := (accessOk_iff _ _).2 ⟨rfl, rfl, by omega⟩
  rw [portWrite, if_pos hok, hostWrite_cmd]

theorem step_command {s : State} {c : Word32} {rest : List HostLine} (hn : nextTurn s = .host)
    (hw : writesCommand s c rest) : step s = execute c (answered rest okResponse (takeTurn s)) := by
  have hw' : writesCommand (takeTurn s) c rest := (writesCommand_congr s (takeTurn s) rfl rfl rfl c rest).2 hw
  rw [step_host s hn, hostTurn_command _ c rest hw', portWrite_cmd]
  rfl

theorem decode_of_decodeTableWord {w : Nat} {i : Instr} (h : decodeTableWord 32 w = some i) :
    decode (tableWord 32 w) = .ok i := by
  rw [decodeTableWord, if_pos le_rfl] at h
  cases hd : decode (tableWord 32 w) with
  | error e => rw [hd] at h; cases h
  | ok j => rw [hd] at h; cases h; rfl

/-- The line that `withFetchWord` places writes the command word. -/
theorem writesCommand_withFetchWord (s : State) (w : Nat) :
    writesCommand (s.withFetchWord 32 w) (tableWord 32 w) s.host :=
  .inl ⟨_, _, rfl, rfl, BitVec.ofNat_toNat ..⟩

/-- Settles O5: the write is performed, and executing a word that decodes is `exec` of its instruction. -/
theorem stepRunsTheDecodedCommand : Obligations.StepRunsTheDecodedCommand := by
  unfold Obligations.StepRunsTheDecodedCommand
  constructor
  · intro s c rest i hn hw hd
    rw [step_command hn hw, execute_of_decode hd]
  · intro s w i h
    rw [step_command rfl (writesCommand_withFetchWord s w), execute_of_decode (decode_of_decodeTableWord h)]
    rfl

end Sys2Proof.Machine
end

section
/-! The memory of the buffer and the two agents' use of it (20_memory.md): the memory is determined by what its bytes read as,
the port's refused and performed accesses, a word of the `MSG` window written and read back, the engine's turns as functions
of the message alone, and what survives in `DONE`. -/

open Sys2Proof.Claims

namespace Sys2Proof.Machine

/-! ### Turns (R95) -/

/-- Settles O4: each clause is the rule of one agent's turn. -/
theorem stepIsTheNextTurnsAction : Obligations.StepIsTheNextTurnsAction := by
  unfold Obligations.StepIsTheNextTurnsAction
  exact fun s => ⟨step_host s, step_engine s, step_reset s⟩

/-! ### Accesses the port refuses or performs (R85 to R92) -/

theorem accessOk_of_goodOffset {off : Nat} (h : goodOffset off) : accessOk off 4 = true :=
  (accessOk_iff off 4).2 ⟨rfl, h⟩

theorem accessOk_eq_false_of_badAccess {off size : Nat} (h : badAccess off size) : accessOk off size = false := by
  unfold badAccess at h
  rw [Bool.eq_false_iff, ne_eq, accessOk_iff]
  omega

theorem performAccess_read (off size : Nat) (s : State) :
    performAccess { kind := .read, off := off, size := size } s = .next (respond (readResponse off size s) s) := rfl

theorem performAccess_write (off size : Nat) (data : Word32) (s : State) :
    performAccess { kind := .write data, off := off, size := size } s = portWrite off size data s := rfl

theorem readResponse_of_ok {off size : Nat} (h : accessOk off size = true) (s : State) :
    readResponse off size s = { busError := false, data := some (hostRead s off) } := by
  rw [readResponse, if_pos h]

theorem readResponse_of_refused {off size : Nat} (h : accessOk off size = false) (s : State) :
    readResponse off size s = { busError := true, data := some 0 } := by
  rw [readResponse, h, if_neg Bool.false_ne_true]

theorem portWrite_of_refused {off size : Nat} (h : accessOk off size = false) (data : Word32) (s : State) :
    portWrite off size data s = .next (respond { busError := true, data := none } s) := by
  rw [portWrite, h, if_neg Bool.false_ne_true]

/-- Settles O43: the port refuses the access, so only its answer changes. -/
theorem badAccessIsABusError : Obligations.BadAccessIsABusError := by
  unfold Obligations.BadAccessIsABusError
  intro off size s hbad
  have hno : accessOk off size = false := accessOk_eq_false_of_badAccess hbad
  constructor
  · rw [performAccess_read, readResponse_of_refused hno, respond]
  · intro data
    rw [performAccess_write, portWrite_of_refused hno, respond]

/-- Settles O44: the port performs the read, and a read changes nothing but the answer. -/
theorem readsHaveNoSideEffect : Obligations.ReadsHaveNoSideEffect := by
  unfold Obligations.ReadsHaveNoSideEffect
  intro off s hgood
  rw [performAccess_read, readResponse_of_ok (accessOk_of_goodOffset hgood), respond]

/-! ### A memory in canonical form is determined by its contents (R81) -/

@[simp] theorem lookup_cons_self (a : Nat) (x : Byte) (m : Memory) : Memory.lookup a ((a, x) :: m) = some x := by
  rw [Memory.lookup, if_pos rfl]

theorem lookup_cons_ne {a b : Nat} (h : b ≠ a) (x : Byte) (m : Memory) :
    Memory.lookup b ((a, x) :: m) = Memory.lookup b m := by
  rw [Memory.lookup, if_neg h]

/-- Addresses rise, so an address below the first one is not listed. -/
theorem lookup_eq_none_of_lt_head {m : Memory} {a : Nat} (hwf : Memory.wf m = true) (ha : ∀ c ∈ m.head?, a < c.1) :
    Memory.lookup a m = none := by
  induction m with
  | nil => rfl
  | cons c m ih =>
    obtain ⟨b, y⟩ := c
    obtain ⟨hhead, hm⟩ := (wf_cons b y m).1 hwf
    have hab : a < b := ha (b, y) rfl
    rw [lookup_cons_ne hab.ne]
    exact ih hm fun c hc => hab.trans (hhead c hc)

theorem lookup_tail_self {a : Nat} {x : Byte} {m : Memory} (hwf : Memory.wf ((a, x) :: m) = true) :
    Memory.lookup a m = none :=
  have ⟨hhead, hm⟩ := (wf_cons a x m).1 hwf
  lookup_eq_none_of_lt_head hm hhead

/-- The first address of the one memory is listed in the other, so it is not below the other's first. -/
theorem head_le_of_lookup_eq {a b : Nat} {x y : Byte} {m m' : Memory} (hwf' : Memory.wf ((b, y) :: m') = true)
    (h : ∀ c, Memory.lookup c ((a, x) :: m) = Memory.lookup c ((b, y) :: m')) : b ≤ a := by
  by_contra hlt
  have hnone : Memory.lookup a ((b, y) :: m') = none :=
    lookup_eq_none_of_lt_head hwf' (by simpa using hlt)
  have ha := h a
  rw [lookup_cons_self, hnone] at ha
  cases ha

theorem memory_ext {m m' : Memory} (hwf : Memory.wf m = true) (hwf' : Memory.wf m' = true)
    (h : ∀ a, Memory.lookup a m = Memory.lookup a m') : m = m' := by
  induction m generalizing m' with
  | nil =>
    cases m' with
    | nil => rfl
    | cons c m' => exact nomatch (h c.1).trans (lookup_cons_self c.1 c.2 m')
  | cons c m ih =>
    cases m' with
    | nil => exact nomatch (h c.1).symm.trans (lookup_cons_self c.1 c.2 m)
    | cons c' m' =>
      obtain ⟨a, x⟩ := c
      obtain ⟨b, y⟩ := c'
      obtain rfl : a = b :=
        Nat.le_antisymm (head_le_of_lookup_eq hwf fun c => (h c).symm) (head_le_of_lookup_eq hwf' h)
      have hxy : some x = some y := by simpa only [lookup_cons_self] using h a
      have htail : ∀ c, Memory.lookup c m = Memory.lookup c m' := by
        intro c
        by_cases hc : c = a
        · rw [hc, lookup_tail_self hwf, lookup_tail_self hwf']
        · simpa only [lookup_cons_ne hc] using h c
      cases hxy
      rw [ih ((wf_cons _ _ _).1 hwf).2 ((wf_cons _ _ _).1 hwf').2 htail]

/-- Settles O58: the rules of one store, and `memory_ext`. -/
theorem memoryIsCanonical : Obligations.MemoryIsCanonical := by
  unfold Obligations.MemoryIsCanonical
  exact ⟨store_wf, lookup_store_same, lookup_store_ne, fun _ _ => memory_ext⟩

/-! ### A word of the `MSG` window (R82) -/

theorem lanes_lane (data : Word32) : lanes (lane data 0) (lane data 1) (lane data 2) (lane data 3) = data := by
  unfold lanes lane
  iterate 3 rw [BitVec.extractLsb'_append_extractLsb'_eq_extractLsb']
  · exact BitVec.extractLsb'_eq_self
  all_goals rfl

theorem msgByte_msgStore_of_lt (s : State) (a : Nat) (data : Word32) {k : Nat} (hk : k < 4) :
    msgByte (msgStore a data s) (a + k) = lane data k := by
  rw [msgByte_msgStore, if_pos (by omega), Nat.add_sub_cancel_left]

theorem msgByte_msgStore_outside (s : State) (data : Word32) {a b : Nat} (h : outsideWord a b) :
    msgByte (msgStore a data s) b = msgByte s b := by
  unfold outsideWord at h
  rw [msgByte_msgStore, if_neg (by omega)]

theorem msgWord_msgStore (s : State) (a : Nat) (data : Word32) : msgWord (msgStore a data s) a = data := by
  have h0 : msgByte (msgStore a data s) a = lane data 0 := msgByte_msgStore_of_lt s a data (by decide : 0 < 4)
  rw [msgWord, h0, msgByte_msgStore_of_lt s a data (by decide : 1 < 4), msgByte_msgStore_of_lt s a data (by decide : 2 < 4),
    msgByte_msgStore_of_lt s a data (by decide : 3 < 4), lanes_lane]

/-- Settles O46: while not busy the write is `msgStore`. -/
theorem messageWriteThenRead : Obligations.MessageWriteThenRead := by
  unfold Obligations.MessageWriteThenRead
  intro a data s hp
  have hb : s.busy = false := (busy_eq_false_iff_notBusy s).2 hp
  have hle : 0x1000 ≤ 0x1000 + a := Nat.le_add_right _ _
  refine ⟨Memory.storeWord a data s.MSG, ?_, fun k hk => msgByte_msgStore_of_lt s a data hk,
    fun b hout => msgByte_msgStore_outside s data hout, ?_⟩
  · rw [hostWrite_msg hle, lockedWrite_idle _ _ _ _ hb, Nat.add_sub_cancel_left, msgStore]
  · rw [hostRead_of_locate (locate_high _ hle), Nat.add_sub_cancel_left]
    exact msgWord_msgStore s a data

/-! ### The engine reads only the message (R83) -/

/-- The state with another buffer: other stored bytes and another draw of the unwritten ones. -/
def withBuffer (m : Memory) (d : Nat) (s : State) : State := { s with MSG := m, draw := d }

theorem stepPre_withBuffer (m : Memory) (d : Nat) (s : State) :
    stepPre (withBuffer m d s) = withBuffer m d (stepPre s) := by
  cases hlarge : inputTooLarge s.VAR (messageLength s)
  case true => rw [stepPre_tooLarge s hlarge, stepPre_tooLarge (withBuffer m d s) hlarge]; rfl
  case false =>
    cases hinvalid : invalidInput (messageLength s)
    case true =>
      rw [stepPre_invalid s hlarge hinvalid, stepPre_invalid (withBuffer m d s) hlarge hinvalid]; rfl
    case false => rw [stepPre_ok s hlarge hinvalid, stepPre_ok (withBuffer m d s) hlarge hinvalid]; rfl

theorem currentBlock_withBuffer {m : Memory} {d : Nat} {s : State}
    (h : ∀ a, a < messageLength s → msgByte (withBuffer m d s) a = msgByte s a) :
    currentBlock (withBuffer m d s) = currentBlock s :=
  block_congr s.VAR (messageLength s) s.BLK.toNat _ _ h

/-- The one step that reads the buffer. -/
theorem stepSched_withBuffer {m : Memory} {d : Nat} {s : State}
    (h : ∀ a, a < messageLength s → msgByte (withBuffer m d s) a = msgByte s a) :
    stepSched (withBuffer m d s) = withBuffer m d (stepSched s) := by
  rw [stepSched, currentBlock_withBuffer h]
  rfl

theorem engineTurn_withBuffer {m : Memory} {d : Nat} {s t : State}
    (hread : ∀ a, a < messageLength s → msgByte (withBuffer m d s) a = msgByte s a) (ht : engineTurn s = .next t) :
    engineTurn (withBuffer m d s) = .next (withBuffer m d t) := by
  rcases eng_cases s with ⟨hb, e⟩ | ⟨hp, e⟩ | ⟨hp, e⟩ | ⟨hp, hj, e⟩ | ⟨hp, hj, e⟩ | ⟨-, -, e⟩ | ⟨hp, e⟩ <;>
    rw [e] at ht <;> cases ht
  · exact eng_idle (withBuffer m d s) hb
  · rw [eng_pre (withBuffer m d s) hp, stepPre_withBuffer]
  · rw [eng_sched (withBuffer m d s) hp, stepSched_withBuffer hread]
  · exact eng_round (withBuffer m d s) hp hj
  · exact eng_fold (withBuffer m d s) hp hj
  · exact eng_asm (withBuffer m d s) hp

theorem stepPre_MSG (s : State) : (stepPre s).MSG = s.MSG := by
  unfold stepPre
  split_ifs <;> rfl

/-- `MSG` beside the fields of `engineTurn_keeps`. -/
theorem engineTurn_MSG {s t : State} (ht : engineTurn s = .next t) : t.MSG = s.MSG := by
  rcases eng_cases s with ⟨-, e⟩ | ⟨-, e⟩ | ⟨-, e⟩ | ⟨-, -, e⟩ | ⟨-, -, e⟩ | ⟨-, -, e⟩ | ⟨-, e⟩ <;> rw [e] at ht <;> cases ht
  case inr.inl => exact stepPre_MSG s
  all_goals rfl

/-- Settles O29: another buffer commutes with the engine's turn, because only the block of SCHED is read from it, and that
from below the length. -/
theorem engineReadsOnlyTheMessage : Obligations.EngineReadsOnlyTheMessage := by
  unfold Obligations.EngineReadsOnlyTheMessage
  intro s m d hread t ht
  obtain ⟨-, hdraw, -⟩ := engineTurn_keeps s t ht
  exact ⟨engineTurn_withBuffer hread ht, engineTurn_MSG ht, hdraw⟩

/-! ### The result stays in `DONE` (R97) -/

/-- The registers that hold a finished result: the accumulator, the digest and the variant. -/
def sameResult (s t : State) : Prop := t.H = s.H ∧ t.DIGEST = s.DIGEST ∧ t.VAR = s.VAR

/-- Of a host turn's effects only those of HASH and ABORT write the result. -/
theorem HostEffect.keeps_result {cmd : Option Word32} {s t : State} (he : HostEffect cmd s (.next t))
    (hcmd : ∀ c i, cmd = some c → decode c = .ok i → i = .nop ∨ i = .clear) : sameResult s t := by
  cases he
  case hash c i v hc hd hv hb =>
    rcases hcmd c i hc hd with rfl | rfl <;> cases hv
  case abort c hc hd => exact nomatch hcmd c .abort hc hd
  all_goals exact ⟨rfl, rfl, rfl⟩

theorem hostTurn_keeps_result {s t : State} (ht : hostTurn s = .next t)
    (hcmd : ∀ c rest i, writesCommand s c rest → decode c = .ok i → i = .nop ∨ i = .clear) : sameResult s t := by
  obtain ⟨hs, ns, rs, -, he⟩ := hostTurn_effect s
  rw [ht] at he
  refine he.keeps_result fun c i hc hd => ?_
  obtain ⟨rest, hw⟩ := (nextCommand_iff s c).1 hc
  exact hcmd c rest i hw hd

/-- Settles O59: in `DONE` the engine has no step, and the host's turn is `hostTurn_keeps_result`. -/
theorem resultStaysUntilHashOrAbort : Obligations.ResultStaysUntilHashOrAbort := by
  unfold Obligations.ResultStaysUntilHashOrAbort
  intro s t hp hstep hreset hcmd
  cases hn : nextTurn s
  case host =>
    rw [step_host s hn] at hstep
    refine hostTurn_keeps_result (s := takeTurn s) hstep fun c rest i hw => hcmd hn c rest i ?_
    exact (writesCommand_congr s (takeTurn s) rfl rfl rfl c rest).1 hw
  case engine =>
    have hb : (takeTurn s).busy = false := (busy_eq_false_iff_notBusy (takeTurn s)).2 (.inr (.inl hp))
    rw [step_engine s hn, eng_idle _ hb] at hstep
    cases hstep
    exact ⟨rfl, rfl, rfl⟩
  case reset => exact absurd hn hreset

end Sys2Proof.Machine
end

section
/-! The encoding of commands (30_encoding.md R110 to R116): a word is the assembly of its fields, the decoder accepts exactly
the fields of the rows of the opcode map, and so it accepts exactly their words. -/

open Sys2Proof.Laws.Word

namespace Sys2Proof

/-! ### The fields of a word (R111) -/

@[simp] theorem assemble_commandFields (c : Word32) : assemble (commandFields c) = c := by
  unfold assemble commandFields
  iterate 2 rw [BitVec.extractLsb'_append_extractLsb'_eq_extractLsb']
  · exact BitVec.extractLsb'_eq_self
  all_goals rfl

theorem wf_fieldsOf (i : Instr) : (fieldsOf i).wf = true := by
  cases i <;> rfl

/-- The checks of R111 to R113 leave the fields of the six rows and no others. -/
theorem CommandFields.wf_iff (f : CommandFields) : f.wf = true ↔ ∃ i, f = fieldsOf i := by
  constructor
  · obtain ⟨rsv, var, op⟩ := f
    intro h
    simp only [CommandFields.wf, rsvOk, opOk, varOk, Bool.and_eq_true, Bool.or_eq_true, beq_iff_eq] at h
    obtain ⟨⟨rfl, hop⟩, hvar⟩ := h
    rcases hop with ((rfl | rfl) | rfl) | rfl
    case inl.inl.inl =>
      obtain rfl : var = 0 := by simpa using hvar
      exact ⟨.nop, rfl⟩
    case inl.inl.inr =>
      have hcases : var = 0 ∨ var = 1 ∨ var = 2 := by
        revert var
        decide
      rcases hcases with rfl | rfl | rfl
      exacts [⟨.hash256, rfl⟩, ⟨.hash384, rfl⟩, ⟨.hash512, rfl⟩]
    case inl.inr =>
      obtain rfl : var = 0 := by simpa using hvar
      exact ⟨.abort, rfl⟩
    case inr =>
      obtain rfl : var = 0 := by simpa using hvar
      exact ⟨.clear, rfl⟩
  · rintro ⟨i, rfl⟩
    exact wf_fieldsOf i

/-! ### What decodes (R114) -/

theorem decodeFields_eq_ok_iff (f : CommandFields) (i : Instr) : decodeFields f = .ok i ↔ f = fieldsOf i := by
  constructor
  · obtain ⟨rsv, var, op⟩ := f
    intro h
    simp only [decodeFields] at h
    split_ifs at h <;> cases h <;> subst_vars <;> rfl
  · rintro rfl
    cases i <;> rfl

theorem rowWord_statement (i : Instr) : Statement i := by
  cases i
  exacts [nop, hash256, hash384, hash512, abort, clear]

theorem encode_eq_rowWord (i : Instr) : encode i = rowWord i := (rowWord_statement i).1

theorem decode_rowWord (i : Instr) : decode (rowWord i) = .ok i := (rowWord_statement i).2.2

theorem decode_encode (i : Instr) : decode (encode i) = .ok i := by
  rw [encode_eq_rowWord, decode_rowWord]

theorem decode_eq_ok_iff (c : Word32) (i : Instr) : decode c = .ok i ↔ c = rowWord i := by
  constructor
  · intro h
    have hf : commandFields c = fieldsOf i := (decodeFields_eq_ok_iff _ i).1 h
    rw [← assemble_commandFields c, hf, ← encode_eq_rowWord, encode]
  · rintro rfl
    exact decode_rowWord i

/-- Settles O3: `fieldsOf` is what the decoder inverts, and its values are the well-formed fields. -/
theorem decodeAndEncodeAgree : Obligations.DecodeAndEncodeAgree := by
  unfold Obligations.DecodeAndEncodeAgree
  refine ⟨fun i _ => decode_encode i, fun c i h => ?_, fun c => ?_, assemble_commandFields⟩
  · rw [encode_eq_rowWord]
    exact (decode_eq_ok_iff c i).1 h
  · rw [CommandFields.wf_iff]
    exact exists_congr fun i => decodeFields_eq_ok_iff (commandFields c) i

/-! ### The opcode map (R116) -/

theorem decode_eq_error_iff (c : Word32) : (∃ e, decode c = .error e) ↔ ∀ i, c ≠ rowWord i := by
  simp only [ne_eq, ← decode_eq_ok_iff]
  cases decode c <;> simp

theorem mem_rowWords_iff (c : Word32) :
    c ∈ [0x0000_0000, 0x0000_0001, 0x0000_0101, 0x0000_0201, 0x0000_0002, 0x0000_0003] ↔ ∃ i, c = rowWord i := by
  constructor
  · simp only [List.mem_cons, List.not_mem_nil, or_false]
    rintro (h | h | h | h | h | h)
    exacts [⟨.nop, h⟩, ⟨.hash256, h⟩, ⟨.hash384, h⟩, ⟨.hash512, h⟩, ⟨.abort, h⟩, ⟨.clear, h⟩]
  · rintro ⟨i, rfl⟩
    cases i <;> decide

/-- Settles O2: a word decodes to a command exactly when it is the word of its row. -/
theorem opcodeMapIsComplete : Obligations.OpcodeMapIsComplete := by
  unfold Obligations.OpcodeMapIsComplete
  refine ⟨fun c => ⟨decode_eq_ok_iff c .nop, decode_eq_ok_iff c .hash256, decode_eq_ok_iff c .hash384,
    decode_eq_ok_iff c .hash512, decode_eq_ok_iff c .abort, decode_eq_ok_iff c .clear, ?_⟩, by decide⟩
  rw [mem_rowWords_iff, decode_eq_error_iff, not_exists]

/-- Settles O1: the six words are those of the rows, and the four others fail one check each. -/
theorem sampleWordsDecode : Obligations.SampleWordsDecode := by
  unfold Obligations.SampleWordsDecode
  exact ⟨decode_rowWord .nop, decode_rowWord .hash256, decode_rowWord .hash384, decode_rowWord .hash512,
    decode_rowWord .abort, decode_rowWord .clear, by decide⟩

end Sys2Proof
end

section
/-! Host programs (30_encoding.md R118, R119): what the host's turn does with each line, and what the lines of each
pseudo-instruction leave behind. -/

open Sys2Proof.Claims

namespace Sys2Proof.Machine

/-! ### The port's part of a line (R85 to R90) -/

theorem readResponse_eq_readAnswer (off : Nat) (s : State) : readResponse off 4 s = readAnswer s off := by
  by_cases h : goodOffset off
  · rw [readResponse_of_ok (accessOk_of_goodOffset h)]
    unfold goodOffset at h
    simp only [readAnswer, readData, if_pos h, decide_eq_true h, Bool.not_true]
  · have hbad : badAccess off 4 := by
      unfold goodOffset at h
      unfold badAccess
      omega
    rw [readResponse_of_refused (accessOk_eq_false_of_badAccess hbad)]
    unfold goodOffset at h
    simp only [readAnswer, readData, if_neg h, decide_eq_false h, Bool.not_false]

theorem readValue_eq_readData (off : Nat) (s : State) : readValue off s = readData s off := by
  rw [readValue, readResponse_eq_readAnswer]
  rfl

theorem goodOffset_of_lt {off : Nat} (h4 : off % 4 = 0) (h : off < 0x1000) : goodOffset off := ⟨h4, by omega⟩

theorem portWrite_of_goodOffset {off : Nat} (h : goodOffset off) (data : Word32) (s : State) :
    portWrite off 4 data s = hostWrite off data (respond okResponse s) := by
  rw [portWrite, if_pos (accessOk_of_goodOffset h)]
  rfl

/-! ### The host's turn by its line (R118) -/

theorem hostTurn_cons {s : State} {line : HostLine} {rest : List HostLine} (h : s.host = line :: rest) :
    hostTurn s = performLine line rest s := by
  rw [hostTurn, h]

theorem hostTurn_wr32 {s : State} {off data : Operand} {rest : List HostLine} (h : s.host = .wr32 off data :: rest) :
    hostTurn s = portWrite (operandValue s off) 4 (operandWord s data) (setHost rest s) := hostTurn_cons h

theorem hostTurn_wr32_good {s : State} {off data : Operand} {rest : List HostLine} (h : s.host = .wr32 off data :: rest)
    (hgood : goodOffset (operandValue s off)) :
    hostTurn s = hostWrite (operandValue s off) (operandWord s data) (answered rest okResponse s) := by
  rw [hostTurn_wr32 h, portWrite_of_goodOffset hgood]
  rfl

theorem hostTurn_rd32 {s : State} {off : Operand} {name : String} {rest : List HostLine}
    (h : s.host = .rd32 off name :: rest) :
    hostTurn s = .next (bindName name (readData s (operandValue s off))
      (answered rest (readAnswer s (operandValue s off)) s)) := by
  rw [hostTurn_cons h, ← readResponse_eq_readAnswer, ← readValue_eq_readData]
  rfl

theorem hostTurn_poll {s : State} {off mask value : Operand} {rest : List HostLine}
    (h : s.host = .poll off mask value :: rest) :
    hostTurn s = .next (answered
      (if readData s (operandValue s off) &&& operandWord s mask = operandWord s value then rest else s.host)
      (readAnswer s (operandValue s off)) s) := by
  rw [hostTurn_cons h, h, ← readResponse_eq_readAnswer, ← readValue_eq_readData]
  simp only [performLine, lineAction, pollRest, beq_iff_eq]
  rfl

theorem hostTurn_pollnz {s : State} {off mask : Operand} {rest : List HostLine} (h : s.host = .pollnz off mask :: rest) :
    hostTurn s = .next (answered (if readData s (operandValue s off) &&& operandWord s mask ≠ 0 then rest else s.host)
      (readAnswer s (operandValue s off)) s) := by
  rw [hostTurn_cons h, h, ← readResponse_eq_readAnswer, ← readValue_eq_readData]
  simp only [performLine, lineAction, pollRest, bne_iff_ne]
  rfl

theorem hostTurn_access {s : State} {a : Access} {rest : List HostLine} (h : s.host = .access a :: rest) :
    hostTurn s = performAccess a (setHost rest s) := hostTurn_cons h

/-! ### Names (R118) -/

theorem nameValue_bindName_same (name : String) (v : Word32) (s : State) : nameValue (bindName name v s) name = v := by
  simp [nameValue, bindName]

theorem nameValue_bindName_ne {x name : String} (h : x ≠ name) (v : Word32) (s : State) :
    nameValue (bindName name v s) x = nameValue s x := by
  rw [nameValue, bindName, List.lookup_cons, beq_false_of_ne h]
  rfl

/-- Settles O50: each line is the rule of its turn, and a name is worth what was bound last. -/
theorem hostLines : Obligations.HostLines := by
  unfold Obligations.HostLines
  refine ⟨fun s off data rest h => ⟨hostTurn_wr32_good h, fun hbad => ?_⟩, fun s off name rest h => hostTurn_rd32 h,
    fun s off mask value rest h => hostTurn_poll h, fun s off mask rest h => hostTurn_pollnz h,
    fun s a rest h => ⟨hostTurn_access h, ?_⟩, fun s name v => ⟨?_, fun x hx => ?_⟩, fun s n a b => ⟨rfl, rfl⟩⟩
  · rw [hostTurn_wr32 h, portWrite_of_refused (accessOk_eq_false_of_badAccess hbad)]
    rfl
  · rintro off data rfl hgood
    rw [hostTurn_access h, performAccess_write, portWrite_of_goodOffset hgood]
    rfl
  · exact congrArg BitVec.toNat (nameValue_bindName_same name v s)
  · exact congrArg BitVec.toNat (nameValue_bindName_ne hx v s)

/-! ### `cmd` (R119) -/

theorem writesCommand_expand_cmd {s : State} {i : Instr} {lines : List HostLine}
    (h : s.host = expand (.cmd i) ++ lines) : writesCommand s (encode i) lines :=
  .inl ⟨_, _, h, rfl, BitVec.ofNat_toNat ..⟩

/-! ### The turn of a `wr32` line -/

/-- The state in which a host turn's write acts: the turn and the line taken, the port's answer given. -/
def lineTaken (lines : List HostLine) (s : State) : State := answered lines okResponse (takeTurn s)

section
variable (lines : List HostLine) (s : State)

@[simp] theorem lineTaken_PHASE : (lineTaken lines s).PHASE = s.PHASE := rfl
@[simp] theorem lineTaken_MSG_LEN : (lineTaken lines s).MSG_LEN = s.MSG_LEN := rfl
@[simp] theorem lineTaken_host : (lineTaken lines s).host = lines := rfl
@[simp] theorem msgByte_lineTaken (a : Nat) : msgByte (lineTaken lines s) a = msgByte s a := rfl

end

theorem run_one {s t : State} (h : step s = .next t) : Host.Core.run core 1 s = .next t := by
  rw [run_succ 0 s t h]
  rfl

/-- A host turn whose line writes a location in the window writes it. -/
theorem step_wr32 {s : State} {off data : Operand} {lines : List HostLine} (hn : nextTurn s = .host)
    (hhost : s.host = .wr32 off data :: lines) (hgood : goodOffset (operandValue s off)) :
    step s = hostWrite (operandValue s off) (operandWord s data) (lineTaken lines s) := by
  have hv (a : Operand) : operandValue (takeTurn s) a = operandValue s a := operandValue_congr s (takeTurn s) rfl rfl a
  have hturn := hostTurn_wr32_good (s := takeTurn s) hhost ((hv off).symm ▸ hgood)
  rw [step_host s hn, hturn, hv, operandWord, hv, operandWord, lineTaken]

/-! ### `setlen` (R119): its two turns write the two halves -/

@[simp] theorem msgByte_setMsgLenLo (data : Word32) (s : State) (a : Nat) :
    msgByte (setMsgLenLo data s) a = msgByte s a := rfl

@[simp] theorem msgByte_setMsgLenHi (data : Word32) (s : State) (a : Nat) :
    msgByte (setMsgLenHi data s) a = msgByte s a := rfl

/-- An operand reads neither the length nor the coming lines. -/
theorem operandWord_setMsgLenLo_lineTaken (data : Word32) (lines : List HostLine) (s : State) (a : Operand) :
    operandWord (setMsgLenLo data (lineTaken lines s)) a = operandWord s a :=
  congrArg (BitVec.ofNat 32) (operandValue_congr s (setMsgLenLo data (lineTaken lines s)) rfl rfl a)

theorem step_wr32_msgLenLo {s : State} {data : Operand} {lines : List HostLine} (hb : s.busy = false)
    (hn : nextTurn s = .host) (hhost : s.host = .wr32 (.num 0x010) data :: lines) :
    step s = .next (setMsgLenLo (operandWord s data) (lineTaken lines s)) := by
  have hgood : goodOffset 0x010 := goodOffset_of_lt rfl (by decide)
  rw [step_wr32 hn hhost hgood, operandValue, hostWrite_msgLenLo, lockedWrite_idle _ _ _ (lineTaken lines s) hb]

theorem step_wr32_msgLenHi {s : State} {data : Operand} {lines : List HostLine} (hb : s.busy = false)
    (hn : nextTurn s = .host) (hhost : s.host = .wr32 (.num 0x014) data :: lines) :
    step s = .next (setMsgLenHi (operandWord s data) (lineTaken lines s)) := by
  have hgood : goodOffset 0x014 := goodOffset_of_lt rfl (by decide)
  rw [step_wr32 hn hhost hgood, operandValue, hostWrite_msgLenHi, lockedWrite_idle _ _ _ (lineTaken lines s) hb]

theorem setHi_setLo (x : Word64) (hi lo : Word32) : setHi (setLo x lo) hi = hi ++ lo := by
  rw [setHi, loHalf_setLo]

theorem toNat_halves {n : Nat} (h : n < 2 ^ 64) :
    (BitVec.ofNat 32 (n / 2 ^ 32) ++ BitVec.ofNat 32 (n % 2 ^ 32)).toNat = n := by
  have hmod : n % 2 ^ 32 < 2 ^ 32 := Nat.mod_lt _ (by decide)
  rw [BitVec.toNat_append, BitVec.toNat_ofNat, BitVec.toNat_ofNat, Nat.mod_mod, Nat.mod_eq_of_lt (by omega),
    ← Nat.shiftLeft_add_eq_or_of_lt hmod, Nat.shiftLeft_eq, Nat.div_add_mod']

theorem expand_setlen (n : Operand) :
    expand (.setlen n) = [.wr32 (.num 0x010) (.mod n (2 ^ 32)), .wr32 (.num 0x014) (.div n (2 ^ 32))] := rfl

theorem run_setlen {s : State} {n : Operand} {lines : List HostLine} {rest : List Turn} (hb : s.busy = false)
    (hhost : s.host = expand (.setlen n) ++ lines) (hturns : s.turns = .host :: .host :: rest) :
    Host.Core.run core 2 s = .next
      (setMsgLenHi (operandWord s (.div n (2 ^ 32))) (lineTaken lines (setMsgLenLo (operandWord s (.mod n (2 ^ 32)))
        (lineTaken (.wr32 (.num 0x014) (.div n (2 ^ 32)) :: lines) s)))) := by
  rw [expand_setlen, List.cons_append, List.cons_append, List.nil_append] at hhost
  have hlo := step_wr32_msgLenLo hb (nextTurn_cons s _ _ hturns) hhost
  have hnext : (takeTurn s).turns = .host :: rest := congrArg List.tail hturns
  have hhi := step_wr32_msgLenHi (data := .div n (2 ^ 32)) (lines := lines)
    (s := setMsgLenLo (operandWord s (.mod n (2 ^ 32))) (lineTaken _ s)) hb (nextTurn_cons _ _ _ hnext) rfl
  rw [operandWord_setMsgLenLo_lineTaken] at hhi
  rw [run_succ 1 s _ hlo, run_one hhi]

/-! ### `wrmsg` (R119): one word of the buffer each turn -/

theorem lane_lanes_zero (b0 b1 b2 b3 : Byte) : lane (lanes b0 b1 b2 b3) 0 = b0 := BitVec.extractLsb'_append_eq_right

theorem lane_lanes_one (b0 b1 b2 b3 : Byte) : lane (lanes b0 b1 b2 b3) 1 = b1 := by
  unfold lane lanes
  rw [BitVec.extractLsb'_append_eq_of_le (by decide)]
  exact BitVec.extractLsb'_append_eq_right

theorem lane_lanes_two (b0 b1 b2 b3 : Byte) : lane (lanes b0 b1 b2 b3) 2 = b2 := by
  unfold lane lanes
  iterate 2 rw [BitVec.extractLsb'_append_eq_of_le (by decide)]
  exact BitVec.extractLsb'_append_eq_right

theorem lane_lanes_three (b0 b1 b2 b3 : Byte) : lane (lanes b0 b1 b2 b3) 3 = b3 := by
  unfold lane lanes
  iterate 2 rw [BitVec.extractLsb'_append_eq_of_le (by decide)]
  exact BitVec.extractLsb'_append_eq_left

theorem lane_wrmsgWord (bytes : List Byte) (m : Nat) {k : Nat} (hk : k < 4) :
    lane (wrmsgWord bytes m) k = bytes.getD (4 * m + k) 0 := by
  unfold wrmsgWord
  interval_cases k
  · exact lane_lanes_zero ..
  · exact lane_lanes_one ..
  · exact lane_lanes_two ..
  · exact lane_lanes_three ..

/-- The line that writes word `m` of a message string. -/
def wrmsgLine (bytes : List Byte) (m : Nat) : HostLine :=
  .wr32 (.num (msgBase + 4 * m)) (.num (wrmsgWord bytes m).toNat)

theorem expand_wrmsg (bytes : List Byte) :
    expand (.wrmsg bytes) = (List.range ((bytes.length + 3) / 4)).map (wrmsgLine bytes) := rfl

theorem step_wrmsgLine {s : State} {bytes : List Byte} {m : Nat} {lines : List HostLine} (hb : s.busy = false)
    (hm : 4 * m < Config.MSG_CAP) (hn : nextTurn s = .host) (hhost : s.host = wrmsgLine bytes m :: lines) :
    step s = .next (msgStore (4 * m) (wrmsgWord bytes m) (lineTaken lines s)) := by
  have hgood : goodOffset (0x1000 + 4 * m) := ⟨by omega, by omega⟩
  have hword : operandWord s (.num (wrmsgWord bytes m).toNat) = wrmsgWord bytes m := BitVec.ofNat_toNat ..
  rw [step_wr32 hn hhost hgood, hword, operandValue, msgBase, hostWrite_msg (Nat.le_add_right _ _),
    lockedWrite_idle _ _ _ (lineTaken lines s) hb, Nat.add_sub_cancel_left]

/-- `t` is `s` after the first `m` words of a message string are written: those bytes are the string's and the zeros after
it, and every other byte, the length and the phase are those of `s`. -/
structure WordsWritten (bytes : List Byte) (m : Nat) (s t : State) : Prop where
  written : ∀ k, k < 4 * m → msgByte t k = bytes.getD k 0
  kept : ∀ k, 4 * m ≤ k → msgByte t k = msgByte s k
  length : t.MSG_LEN = s.MSG_LEN
  phase : t.PHASE = s.PHASE

theorem WordsWritten.succ {bytes : List Byte} {m : Nat} {s t : State} (h : WordsWritten bytes m s t)
    (lines : List HostLine) :
    WordsWritten bytes (m + 1) s (msgStore (4 * m) (wrmsgWord bytes m) (lineTaken lines t)) where
  written k hk := by
    rw [msgByte_msgStore]
    split_ifs with hword
    · rw [lane_wrmsgWord bytes m (by omega), Nat.add_sub_cancel' hword.1]
    · rw [msgByte_lineTaken, h.written k (by omega)]
  kept k hk := by
    rw [msgByte_msgStore, if_neg (by omega), msgByte_lineTaken, h.kept k (by omega)]
  length := h.length
  phase := h.phase

theorem run_wrmsgLines {s : State} (hb : s.busy = false) (bytes : List Byte) (m : Nat) (hm : 4 * m ≤ Config.MSG_CAP)
    (lines : List HostLine) (rest : List Turn) (hhost : s.host = (List.range m).map (wrmsgLine bytes) ++ lines)
    (hturns : s.turns = List.replicate m .host ++ rest) :
    ∃ t, Host.Core.run core m s = .next t ∧ WordsWritten bytes m s t ∧ t.host = lines ∧ t.turns = rest := by
  induction m generalizing lines rest with
  | zero => exact ⟨s, rfl, ⟨fun k hk => by omega, fun _ _ => rfl, rfl, rfl⟩, hhost, hturns⟩
  | succ m ih =>
    rw [List.range_succ, List.map_append, List.append_assoc, List.map_singleton, List.singleton_append] at hhost
    rw [List.replicate_succ', List.append_assoc, List.singleton_append] at hturns
    obtain ⟨t, hrun, hwritten, hthost, htturns⟩ := ih (by omega) _ _ hhost hturns
    have htb : t.busy = false := (congrArg Phase.busy hwritten.phase).trans hb
    have hstep := step_wrmsgLine htb (by omega) (nextTurn_cons t _ _ htturns) hthost
    refine ⟨_, ?_, hwritten.succ lines, rfl, congrArg List.tail htturns⟩
    rw [run_add m 1 s t hrun, run_one hstep]

/-! ### `waitdone` (R119) -/

theorem and_0x30_ne_zero_iff (x : Word32) : x &&& 0x30 ≠ 0 ↔ x.getLsbD 4 = true ∨ x.getLsbD 5 = true := by
  have hmask : (0x30 : Word32) = BitVec.twoPow 32 4 ||| BitVec.twoPow 32 5 := by decide
  rw [hmask, BitVec.and_or_distrib_left, BitVec.and_twoPow, BitVec.and_twoPow]
  cases x.getLsbD 4 <;> cases x.getLsbD 5 <;> decide

theorem hostTurn_waitdone {s : State} {lines : List HostLine} (h : s.host = expand .waitdone ++ lines) :
    hostTurn s = .next (answered (if s.DONE = true ∨ s.ERR = true then lines else s.host)
      { busError := false, data := some (statusWord s) } s) := by
  have hgood : goodOffset 0x008 := goodOffset_of_lt rfl (by decide)
  have hread : readData s 0x008 = statusWord s := if_pos hgood
  have hanswer : readAnswer s 0x008 = { busError := false, data := some (statusWord s) } := by
    rw [← readResponse_eq_readAnswer, readResponse_of_ok (accessOk_of_goodOffset hgood)]
    rfl
  obtain ⟨hdone, herr, -⟩ := statusWord_bits s
  have hcond : statusWord s &&& 0x30 ≠ 0 ↔ s.DONE = true ∨ s.ERR = true := by
    rw [and_0x30_ne_zero_iff, hdone, herr]
  have hturn : hostTurn s = .next (answered (if statusWord s &&& 0x30 ≠ 0 then lines else s.host)
      (readAnswer s 0x008) s) := by
    have hpoll := hostTurn_pollnz (off := .num 0x008) (mask := .num 0x30) (rest := lines) h
    rw [operandValue, operandWord, operandValue, hread] at hpoll
    exact hpoll
  rw [hturn, hanswer, if_congr hcond rfl rfl]

/-- Settles O51: the turns of each expansion, line by line. -/
theorem pseudoInstructionsDoTheirWork : Obligations.PseudoInstructionsDoTheirWork := by
  unfold Obligations.PseudoInstructionsDoTheirWork
  refine ⟨⟨rfl, rfl, rfl, rfl, rfl, rfl, rfl⟩, fun s i lines hn hhost => ?_,
    fun s n lines rest hp hlt hhost hturns => ?_, fun s bytes lines rest hp hcap hhost hturns => ?_,
    fun s lines hn hhost => ?_⟩
  · rw [step_command hn (writesCommand_expand_cmd hhost), execute_of_decode (decode_encode i)]
  · have hb : s.busy = false := (busy_eq_false_iff_notBusy s).2 hp
    refine ⟨_, run_setlen hb hhost hturns, ?_, by simp, by simp, fun a => by simp⟩
    rw [setMsgLenHi_MSG_LEN, lineTaken_MSG_LEN, setMsgLenLo_MSG_LEN, lineTaken_MSG_LEN, setHi_setLo]
    exact toNat_halves hlt
  · have hb : s.busy = false := (busy_eq_false_iff_notBusy s).2 hp
    have hm : 4 * ((bytes.length + 3) / 4) ≤ Config.MSG_CAP := by
      have := cap_ge
      omega
    rw [expand_wrmsg] at hhost
    obtain ⟨t, hrun, hwritten, hlines, -⟩ := run_wrmsgLines hb bytes _ hm lines rest hhost hturns
    exact ⟨t, hrun, hwritten.written, hwritten.kept, hwritten.length, hlines, hwritten.phase⟩
  · rw [step_host s hn]
    exact hostTurn_waitdone (s := takeTurn s) hhost

end Sys2Proof.Machine
end

section
/-! The commands (40_commands.md R130 to R140): where a command is legal and what it then answers, what a reserved word does,
and the frame that every command keeps. -/

open Sys2Proof.Claims Sys2Proof.Laws.Word

namespace Sys2Proof.Machine

/-! ### Legal and rejected commands (R130, R140) -/

theorem exec_of_legal {i : Instr} {s : State} (h : legal i s.PHASE = true) : exec i s = .next (performOf i s) := by
  rw [exec_eq, if_pos h]

theorem exec_of_not_legal {i : Instr} {s : State} (h : ¬ legal i s.PHASE = true) :
    exec i s = .next (rejected 2 0x004 (rowWord i) s) := by
  rw [exec_eq, if_neg h, reject_eq_rejected, encode_eq_rowWord]
  rfl

/-- A command that the table of R140 makes legal outside the busy phases only is performed there and rejected in them. -/
theorem exec_of_legal_eq_not_busy {i : Instr} (hi : ∀ p, legal i p = !p.busy) (s : State) :
    (notBusy s → exec i s = .next (performOf i s)) ∧
    (inBusyPhase s → exec i s = .next (rejected 2 0x004 (rowWord i) s)) := by
  have hlegal : legal i s.PHASE = !s.busy := hi s.PHASE
  constructor
  · intro hn
    exact exec_of_legal (by rw [hlegal, (busy_eq_false_iff_notBusy s).2 hn, Bool.not_false])
  · intro hb
    exact exec_of_not_legal (by simp [hlegal, (busy_iff_inBusyPhase s).2 hb])

/-! ### Reserved words (R139) -/

theorem execute_of_reserved {c : Word32} {e : Reserved} (hd : decode c = .error e) (s : State) :
    execute c s = .next (rejected 1 0x004 c s) := by
  rw [execute, hd, ← reject_eq_rejected]
  rfl

/-- Settles O6: the decoder's error is the rejection, and the corner words are none of the words of the opcode map. -/
theorem reservedWordIsRejected : Obligations.ReservedWordIsRejected := by
  unfold Obligations.ReservedWordIsRejected
  refine ⟨fun c s e hd => execute_of_reserved hd s, fun s c rest e hn hw hd => ?_, fun c hc => ?_⟩
  · rw [step_command hn hw, execute_of_reserved hd]
  · rw [decode_eq_error_iff, ← not_exists, ← mem_rowWords_iff]
    simp only [List.mem_cons, List.not_mem_nil, or_false] at hc
    rcases hc with rfl | rfl | rfl <;> decide

/-! ### NOP and ABORT (R131, R135) -/

/-- Settles O7: NOP is legal in every phase, and performing it is the identity. -/
theorem nopChangesNothing : Obligations.NopChangesNothing := by
  unfold Obligations.NopChangesNothing
  exact ⟨decode_rowWord .nop, fun _ => exec_of_legal rfl⟩

/-- Settles O9: ABORT is legal in every phase, and the state it answers is the one `performAbort` writes. -/
theorem abortReturnsToResetValues : Obligations.AbortReturnsToResetValues := by
  unfold Obligations.AbortReturnsToResetValues
  exact ⟨decode_rowWord .abort, fun _ => exec_of_legal rfl⟩

/-! ### HASH (R133) -/

theorem exists_hashVariant_iff (i : Instr) :
    (∃ v, hashVariant i = some v) ↔ i = .hash256 ∨ i = .hash384 ∨ i = .hash512 := by
  cases i <;> simp [hashVariant]

theorem legal_of_hashVariant {i : Instr} {v : Variant} (h : hashVariant i = some v) (p : Phase) :
    legal i p = !p.busy := by
  cases i <;> cases h <;> rfl

theorem performOf_of_hashVariant {i : Instr} {v : Variant} (h : hashVariant i = some v) :
    performOf i = performHash v := by
  cases i <;> cases h <;> rfl

theorem performHash_eq_hashed (v : Variant) (s : State) : performHash v s = hashed v s := rfl

theorem busy_hashed (v : Variant) (s : State) : (hashed v s).busy = true := rfl

theorem hashRule_of_hashVariant {i : Instr} {v : Variant} (h : hashVariant i = some v) : hashRule i (rowWord i) v := by
  refine ⟨decode_rowWord i, fun s => ?_⟩
  obtain ⟨hperform, hreject⟩ := exec_of_legal_eq_not_busy (legal_of_hashVariant h) s
  rw [performOf_of_hashVariant h, performHash_eq_hashed] at hperform
  exact ⟨fun hn => ⟨hperform hn, busy_hashed v s⟩, hreject⟩

/-- Settles O8: the one rule of HASH at its three variants. -/
theorem hashStartsOneComputation : Obligations.HashStartsOneComputation := by
  unfold Obligations.HashStartsOneComputation
  exact ⟨hashRule_of_hashVariant (i := .hash256) rfl, hashRule_of_hashVariant (i := .hash384) rfl,
    hashRule_of_hashVariant (i := .hash512) rfl⟩

/-! ### CLEAR (R137) -/

/-- Settles O10: CLEAR is legal outside the busy phases only, and the state it then answers is the one `performClear`
writes. -/
theorem clearKeepsTheResult : Obligations.ClearKeepsTheResult := by
  unfold Obligations.ClearKeepsTheResult
  exact ⟨decode_rowWord .clear, exec_of_legal_eq_not_busy fun _ => rfl⟩

/-! ### Frames -/

/-- What no command changes: the message and its length, the interrupt enables, `BASE`, and the host's record
and the coming turns. -/
def CommandFrame (s t : State) : Prop :=
  t.MSG_LEN = s.MSG_LEN ∧ t.IRQ_EN = s.IRQ_EN ∧ (∀ a, msgByte t a = msgByte s a) ∧
    t.host = s.host ∧ t.turns = s.turns ∧ t.names = s.names ∧ t.response = s.response ∧ t.BASE = s.BASE

/-- What neither NOP nor CLEAR nor a rejection changes: the datapath, the digest, the counters and the variant. -/
def ComputationKept (s t : State) : Prop :=
  t.H = s.H ∧ t.S = s.S ∧ t.W = s.W ∧ t.M = s.M ∧ t.DIGEST = s.DIGEST ∧ t.NBLK = s.NBLK ∧ t.BLK = s.BLK ∧
    t.J = s.J ∧ t.VAR = s.VAR

theorem commandFrame_performOf (i : Instr) (s : State) : CommandFrame s (performOf i s) := by
  cases i <;> exact ⟨rfl, rfl, fun _ => rfl, rfl, rfl, rfl, rfl, rfl⟩

theorem commandFrame_reject (cause : Word32) (off : Nat) (data : Word32) (s : State) :
    CommandFrame s (reject cause off data s) :=
  ⟨rfl, rfl, fun _ => rfl, rfl, rfl, rfl, rfl, rfl⟩

theorem computationKept_performOf {i : Instr} (hi : i = .nop ∨ i = .clear) (s : State) :
    ComputationKept s (performOf i s) := by
  obtain rfl | rfl := hi <;> exact ⟨rfl, rfl, rfl, rfl, rfl, rfl, rfl, rfl, rfl⟩

theorem computationKept_reject (cause : Word32) (off : Nat) (data : Word32) (s : State) :
    ComputationKept s (reject cause off data s) :=
  ⟨rfl, rfl, rfl, rfl, rfl, rfl, rfl, rfl, rfl⟩

/-- What a command that answers a next state did: it was performed, or rejected with cause 2. -/
theorem exec_next_cases {i : Instr} {s t : State} (h : exec i s = .next t) :
    t = performOf i s ∨ t = reject 2 0x004 (encode i) s := by
  rw [exec_eq] at h
  split_ifs at h <;> cases h
  exacts [.inl rfl, .inr rfl]

theorem exec_commandFrame {i : Instr} {s t : State} (h : exec i s = .next t) : CommandFrame s t := by
  obtain rfl | rfl := exec_next_cases h
  · exact commandFrame_performOf i s
  · exact commandFrame_reject ..

theorem exec_computationKept {i : Instr} {s t : State} (h : exec i s = .next t) (hi : i = .nop ∨ i = .clear) :
    ComputationKept s t := by
  obtain rfl | rfl := exec_next_cases h
  · exact computationKept_performOf hi s
  · exact computationKept_reject ..

theorem exec_hash_next {i : Instr} {v : Variant} {s t : State} (hv : hashVariant i = some v) (hn : notBusy s)
    (h : exec i s = .next t) : t = hashed v s := by
  obtain ⟨-, hrule⟩ := hashRule_of_hashVariant hv
  obtain ⟨hexec, -⟩ := (hrule s).1 hn
  rw [hexec] at h
  cases h
  rfl

/-- Settles O11: the frame of a performed command and of a rejection, and for a legal HASH the state that R133 gives. -/
theorem commandFrames : Obligations.CommandFrames := by
  unfold Obligations.CommandFrames
  intro i s t h
  refine ⟨exec_commandFrame h, exec_computationKept h, fun hi hn => ?_⟩
  obtain ⟨v, hv⟩ := (exists_hashVariant_iff i).2 hi
  obtain rfl := exec_hash_next hv hn h
  exact ⟨rfl, rfl, rfl, rfl⟩

end Sys2Proof.Machine
end

section
/-! The word operators (41_word_ops.md R160 to R167): each operator's number or its bits, said once, and what the spec derives
from them. -/

namespace Sys2Proof.Machine

variable {w : Nat}

/-! ### Modular addition (R160) -/

theorem addW_comm (a b : BitVec w) : addW a b = addW b a := by
  simp only [addW_eq, BitVec.add_comm]

theorem addW_assoc (a b c : BitVec w) : addW (addW a b) c = addW a (addW b c) := by
  simp only [addW_eq, BitVec.add_assoc]

/-- Settles O13: addition is the library's, which reduces the exact sum. -/
theorem additionWraps : Obligations.AdditionWraps := by
  unfold Obligations.AdditionWraps
  refine ⟨fun w a b => ?_, fun w a b c => ⟨addW_comm a b, addW_assoc a b c⟩, by decide, by decide⟩
  rw [addW_eq, BitVec.toNat_add]

/-! ### Rotation and shift (R162, R163) -/

theorem toNat_shr (x : BitVec w) (s : Nat) : (shr x s).toNat = x.toNat / 2 ^ s := by
  rw [shr, BitVec.toNat_ushiftRight, Nat.shiftRight_eq_div_pow]

theorem toNat_rotr (x : BitVec w) (r : Nat) :
    (rotr x r).toNat = (x.toNat / 2 ^ r) ||| ((x.toNat * 2 ^ (w - r)) % 2 ^ w) := by
  rw [rotr, BitVec.toNat_or, BitVec.toNat_ushiftRight, BitVec.toNat_shiftLeft, Nat.shiftRight_eq_div_pow,
    Nat.shiftLeft_eq]

theorem rotr_eq_rotateRight (x : BitVec w) {r : Nat} (hr : r < w) : rotr x r = x.rotateRight r := by
  rw [rotr, BitVec.rotateRight_def, Nat.mod_eq_of_lt hr]

/-- A bit below `w - r` comes from `r` places above it, and one of the top `r` bits wraps around. -/
theorem getLsbD_rotr (x : BitVec w) {r i : Nat} (hr : r < w) (hi : i < w) :
    (rotr x r).getLsbD i = x.getLsbD ((i + r) % w) := by
  rw [rotr_eq_rotateRight x hr, BitVec.getLsbD_rotateRight_of_lt hr]
  by_cases hlow : i < w - r
  · rw [decide_eq_true hlow, cond_true, Nat.mod_eq_of_lt (by omega), Nat.add_comm]
  · have hwrap : (i + r) % w = i - (w - r) := by
      rw [Nat.mod_eq_sub_mod (by omega), Nat.mod_eq_of_lt (by omega)]
      omega
    rw [decide_eq_false hlow, cond_false, decide_eq_true hi, Bool.true_and, hwrap]

theorem rotr_zero {r : Nat} (hr : r < w) : rotr (0 : BitVec w) r = 0 :=
  BitVec.eq_of_getLsbD_eq fun i hi => by
    rw [getLsbD_rotr 0 hr hi]
    simp

theorem rotr_allOnes {r : Nat} (hr : r < w) : rotr (BitVec.allOnes w) r = BitVec.allOnes w :=
  BitVec.eq_of_getLsbD_eq fun i hi => by
    have hsrc : (i + r) % w < w := Nat.mod_lt _ (by omega)
    rw [getLsbD_rotr _ hr hi, BitVec.getLsbD_allOnes, BitVec.getLsbD_allOnes, decide_eq_true hsrc, decide_eq_true hi]

/-- Settles O14: a rotation and a shift as numbers, and a rotation by its bits, from which its two fixed words follow. -/
theorem rotateAndShiftRight : Obligations.RotateAndShiftRight := by
  unfold Obligations.RotateAndShiftRight
  exact ⟨fun _ r x _ _ => toNat_rotr x r, fun _ _ _ x _ hr hi => getLsbD_rotr x hr hi,
    fun _ _ _ hr => ⟨rotr_zero hr, rotr_allOnes hr⟩, fun _ s x _ _ => toNat_shr x s, by decide, by decide, by decide⟩

/-! ### Choose (R161, R164) -/

theorem getLsbD_notW (x : BitVec w) {i : Nat} (hi : i < w) : (notW x).getLsbD i = !x.getLsbD i := by
  rw [notW, BitVec.getLsbD_not, decide_eq_true hi, Bool.true_and]

theorem getLsbD_ch (x y z : BitVec w) {i : Nat} (hi : i < w) :
    (ch x y z).getLsbD i = if x.getLsbD i then y.getLsbD i else z.getLsbD i := by
  rw [ch, BitVec.getLsbD_xor, BitVec.getLsbD_and, BitVec.getLsbD_and, getLsbD_notW x hi]
  cases x.getLsbD i <;> simp

/-- The two terms of Choose never have a 1 in the same bit. -/
theorem ch_eq_or (x y z : BitVec w) : ch x y z = (x &&& y) ||| (notW x &&& z) :=
  BitVec.eq_of_getLsbD_eq fun i hi => by
    rw [getLsbD_ch x y z hi, BitVec.getLsbD_or, BitVec.getLsbD_and, BitVec.getLsbD_and, getLsbD_notW x hi]
    cases x.getLsbD i <;> simp

theorem ch_allOnes (y z : BitVec w) : ch (BitVec.allOnes w) y z = y :=
  BitVec.eq_of_getLsbD_eq fun i hi => by
    rw [getLsbD_ch _ y z hi, BitVec.getLsbD_allOnes, decide_eq_true hi, if_pos rfl]

theorem ch_zero (y z : BitVec w) : ch 0 y z = z :=
  BitVec.eq_of_getLsbD_eq fun i hi => by
    rw [getLsbD_ch 0 y z hi]
    simp

/-- Settles O15: Choose by its bits, from which the derived forms follow. -/
theorem chooseSelectsByBit : Obligations.ChooseSelectsByBit := by
  unfold Obligations.ChooseSelectsByBit
  exact ⟨fun _ _ => BitVec.toNat_not, fun _ _ x y z hi => getLsbD_ch x y z hi,
    fun _ y z => ⟨ch_allOnes y z, ch_zero y z⟩, fun _ _ _ _ => rfl, fun _ x y z => ch_eq_or x y z, by decide, by decide⟩

/-! ### Majority (R165) -/

theorem majority_of_bits (a b c : Bool) :
    ((a && b) ^^ (a && c) ^^ (b && c)) = true ↔ 2 ≤ a.toNat + b.toNat + c.toNat := by
  revert a b c
  decide

theorem getLsbD_maj (x y z : BitVec w) (i : Nat) :
    (maj x y z).getLsbD i = true ↔ 2 ≤ (x.getLsbD i).toNat + (y.getLsbD i).toNat + (z.getLsbD i).toNat := by
  simp only [maj, BitVec.getLsbD_xor, BitVec.getLsbD_and, majority_of_bits]

theorem maj_self_left (x z : BitVec w) : maj x x z = x := by
  rw [maj, BitVec.and_self, BitVec.xor_assoc, BitVec.xor_self, BitVec.xor_zero]

theorem maj_self_right (x y : BitVec w) : maj x y y = y := by
  rw [maj, BitVec.and_self, BitVec.xor_self, BitVec.zero_xor]

/-- Settles O16: Majority by its bits, and with two equal words. -/
theorem majorityOfThreeBits : Obligations.MajorityOfThreeBits := by
  unfold Obligations.MajorityOfThreeBits
  exact ⟨fun _ _ _ _ => rfl, fun _ i x y z _ => getLsbD_maj x y z i,
    fun _ x y z => ⟨maj_self_left x z, maj_self_right x y⟩, by decide, by decide⟩

/-! ### The sigma functions (R166, R167) -/

theorem rot3_eq_rotateRight (x : BitVec w) {a b c : Nat} (ha : a < w) (hb : b < w) (hc : c < w) :
    rot3 x a b c = x.rotateRight a ^^^ x.rotateRight b ^^^ x.rotateRight c := by
  rw [rot3, rotr_eq_rotateRight x ha, rotr_eq_rotateRight x hb, rotr_eq_rotateRight x hc]

theorem rot2shr_eq_rotateRight (x : BitVec w) {a b : Nat} (c : Nat) (ha : a < w) (hb : b < w) :
    rot2shr x a b c = x.rotateRight a ^^^ x.rotateRight b ^^^ x >>> c := by
  rw [rot2shr, rotr_eq_rotateRight x ha, rotr_eq_rotateRight x hb, shr]

/-- Settles O17: every amount of R166 and R167 is below its family's width, where `rotr` is the library's rotation. -/
theorem sigmaFunctionsByFamily : Obligations.SigmaFunctionsByFamily := by
  unfold Obligations.SigmaFunctionsByFamily
  constructor <;> intro x
  all_goals
    refine ⟨rot3_eq_rotateRight x ?_ ?_ ?_, rot3_eq_rotateRight x ?_ ?_ ?_, rot2shr_eq_rotateRight x _ ?_ ?_,
      rot2shr_eq_rotateRight x _ ?_ ?_⟩ <;> decide

end Sys2Proof.Machine
end

section
/-! The preprocessor (42_preprocessor.md R181 to R190): the zero bits as a remainder, the block count in bytes, the regions of the
padded stream, big-endian byte strings as numbers, and the PRE step. -/

namespace Sys2Proof.Machine

/-! ### Zero bits (R182) -/

theorem zeroBits_lt (v : Variant) (n : Nat) : zeroBits v n < v.B := by
  cases v <;> simp only [zeroBits, Variant.B, Variant.Lf] <;> omega

/-- The solutions of the congruence of R182 are one class modulo `B`, and `zeroBits` is its remainder. -/
theorem padding_congruence_iff (v : Variant) (n k : Nat) :
    (8 * n + 1 + k) % v.B = (v.B - v.Lf) % v.B ↔ k % v.B = zeroBits v n := by
  cases v <;> simp only [zeroBits, bitLength, Variant.B, Variant.Lf] <;> omega

theorem zeroBits_le {v : Variant} {n k : Nat} (h : (8 * n + 1 + k) % v.B = (v.B - v.Lf) % v.B) : zeroBits v n ≤ k := by
  rw [← (padding_congruence_iff v n k).1 h]
  exact Nat.mod_le k v.B

theorem zeroBits_mod_eight (v : Variant) (n : Nat) : zeroBits v n % 8 = 7 := by
  cases v <;> simp only [zeroBits, bitLength, Variant.B, Variant.Lf] <;> omega

theorem paddedBits_mod_B (v : Variant) (n : Nat) : paddedBits v n % v.B = 0 := by
  cases v <;> simp only [paddedBits, zeroBits, bitLength, Variant.B, Variant.Lf] <;> omega

/-- Settles O18: `zeroBits` is the remainder of every number that meets the congruence, so it meets it and is the least. -/
theorem paddingIsMinimal : Obligations.PaddingIsMinimal := by
  unfold Obligations.PaddingIsMinimal
  intro v n
  have hlt := zeroBits_lt v n
  exact ⟨hlt, (padding_congruence_iff v n _).2 (Nat.mod_eq_of_lt hlt), fun _ => zeroBits_le, rfl, paddedBits_mod_B v n,
    zeroBits_mod_eight v n⟩

/-! ### Block count (R183, R188) -/

/-- The block count on bytes: the message, one byte of 0x80 and the length field, rounded up to whole blocks. -/
theorem blockCount_eq_bytes (v : Variant) (n : Nat) : blockCount v n = (n + v.Lf / 8 + v.B / 8) / (v.B / 8) := by
  rw [blockCount_eq]
  cases v <;> simp only [Variant.B, Variant.Lf] <;> omega

/-- Settles O19: the ceiling is `blockCount_eq`, and the closed forms are the count on bytes at each variant. -/
theorem blockCountClosedForm : Obligations.BlockCountClosedForm := by
  unfold Obligations.BlockCountClosedForm
  intro n
  exact ⟨fun v => ⟨rfl, blockCount_eq v n, blockCount_pos v n⟩, blockCount_eq_bytes .v256 n, blockCount_eq_bytes .v384 n,
    blockCount_eq_bytes .v512 n⟩

/-- One more byte makes one more block exactly where the count's dividend reaches a multiple of the block. -/
theorem blockCount_succ (v : Variant) (n : Nat) :
    blockCount v (n + 1) = blockCount v n + if (n + 1) % (v.B / 8) = v.B / 8 - v.Lf / 8 then 1 else 0 := by
  have hdvd : v.B / 8 ∣ n + v.Lf / 8 + v.B / 8 + 1 ↔ (n + 1) % (v.B / 8) = v.B / 8 - v.Lf / 8 := by
    cases v <;> simp only [Variant.B, Variant.Lf] <;> omega
  have hsucc : n + 1 + v.Lf / 8 + v.B / 8 = n + v.Lf / 8 + v.B / 8 + 1 := by omega
  rw [blockCount_eq_bytes, blockCount_eq_bytes, hsucc, Nat.succ_div, if_congr hdvd rfl rfl]

/-- Settles O20: the step from `n - 1` to `n` is `blockCount_succ`. -/
theorem blockCountBoundary : Obligations.BlockCountBoundary := by
  unfold Obligations.BlockCountBoundary
  refine ⟨by decide, fun v n hn => ?_⟩
  obtain ⟨m, rfl⟩ := Nat.exists_eq_add_of_le' hn
  rw [Nat.add_sub_cancel, blockCount_succ]
  refine ⟨fun h => ?_, fun h => ?_, by cases v <;> rfl⟩
  · rw [if_pos h]
  · rw [if_neg h, Nat.add_zero]

/-! ### Big-endian byte strings (00_scope.md R16) -/

/-- Each byte weighs `256` to the number of bytes behind it. -/
theorem beNat_map_range (f : Nat → Byte) (k : Nat) :
    beNat ((List.range k).map f) = ((List.range k).map fun q => (f q).toNat * 2 ^ (8 * (k - 1 - q))).sum := by
  induction k with
  | zero => rfl
  | succ k ih =>
    have hweight : ∀ q ∈ List.range k,
        (f q).toNat * 2 ^ (8 * (k + 1 - 1 - q)) = (f q).toNat * 2 ^ (8 * (k - 1 - q)) * 256 := fun q hq => by
      rw [show 8 * (k + 1 - 1 - q) = 8 * (k - 1 - q) + 8 by have := List.mem_range.1 hq; omega, Nat.pow_add, Nat.mul_assoc]
    rw [List.range_succ, List.map_append, List.map_append, List.sum_append, List.map_congr_left hweight,
      List.sum_map_mul_right, List.map_singleton, beNat_append, ih]
    simp

/-- `bytesBE` and `BE` are inverse on the numbers of `k` bytes. -/
theorem beNat_beByte (k x : Nat) : beNat ((List.range k).map (beByte k x)) = x % 256 ^ k := by
  induction k generalizing x with
  | zero => simp [beNat, Nat.mod_one]
  | succ k ih =>
    have hinit : ∀ q ∈ List.range k, beByte (k + 1) x q = beByte k (x / 256) q := fun q hq => by
      rw [beByte, beByte, show 8 * (k + 1 - 1 - q) = 8 + 8 * (k - 1 - q) by have := List.mem_range.1 hq; omega, Nat.pow_add,
        Nat.div_div_eq_div_mul]
    have hlast : (beByte (k + 1) x k).toNat = x % 256 := by simp [beByte]
    rw [List.range_succ, List.map_append, List.map_congr_left hinit, List.map_singleton, beNat_append, ih, hlast,
      Nat.pow_succ', Nat.mod_mul, Nat.mul_comm, Nat.add_comm]

/-! ### The padded stream (R184, R190) -/

section
variable {v : Variant} {n : Nat} {mem : Nat → Byte}

theorem marker_lt_lengthField (v : Variant) (n : Nat) : n < blockCount v n * (v.B / 8) - v.Lf / 8 := by
  rw [blockCount_eq_bytes]
  cases v <;> simp only [Variant.B, Variant.Lf] <;> omega

theorem paddedByte_of_lt {i : Nat} (h : i < n) : paddedByte v n mem i = mem i := if_pos h

theorem paddedByte_marker : paddedByte v n mem n = 0x80 := by
  simp [paddedByte]

theorem paddedByte_between {i : Nat} (h : n < i) (hlt : i < blockCount v n * (v.B / 8) - v.Lf / 8) :
    paddedByte v n mem i = 0x00 := by
  rw [paddedByte, if_neg (by omega), if_neg (by omega), if_neg (by omega)]

theorem paddedByte_lengthField {q : Nat} (hq : q < v.Lf / 8) :
    paddedByte v n mem (blockCount v n * (v.B / 8) - v.Lf / 8 + q) = beByte (v.Lf / 8) (8 * n) q := by
  have hmarker := marker_lt_lengthField v n
  have hplace : blockCount v n * (v.B / 8) - 1 - (blockCount v n * (v.B / 8) - v.Lf / 8 + q) = v.Lf / 8 - 1 - q := by omega
  rw [paddedByte, if_neg (by omega), if_neg (by omega), if_pos (by omega), hplace, beByte, bitLength]

/-- The length field is the bit length reduced to the field's width. -/
theorem beNat_lengthField :
    beNat ((List.range (v.Lf / 8)).map fun q => paddedByte v n mem (blockCount v n * (v.B / 8) - v.Lf / 8 + q)) =
      8 * n % 2 ^ v.Lf := by
  have hbytes : 256 ^ (v.Lf / 8) = 2 ^ v.Lf := by cases v <;> rfl
  rw [List.map_congr_left fun q hq => paddedByte_lengthField (List.mem_range.1 hq), beNat_beByte, hbytes]

end

/-- Settles O21: one lemma per region of the stream, and a length that fits is not reduced. -/
theorem paddedStreamLayout : Obligations.PaddedStreamLayout := by
  unfold Obligations.PaddedStreamLayout
  intro v n mem
  refine ⟨marker_lt_lengthField v n, fun _ => paddedByte_of_lt, paddedByte_marker, fun _ => paddedByte_between, fun hfits => ?_⟩
  rw [beNat_lengthField, Nat.mod_eq_of_lt hfits]

/-! ### The block parse (R187) -/

/-- A word has exactly the bits of its bytes, so their number is not reduced. -/
theorem toNat_blockWord (v : Variant) (n : Nat) (mem : Nat → Byte) (b t : Nat) :
    (blockWord v n mem b t).toNat =
      beNat ((List.range (v.w / 8)).map fun q => paddedByte v n mem (b * (v.B / 8) + t * (v.w / 8) + q)) := by
  have hbits : 256 ^ (v.w / 8) = 2 ^ v.w := by cases v <;> rfl
  rw [blockWord, BitVec.toNat_ofNat]
  refine Nat.mod_eq_of_lt ((beNat_lt _).trans_eq ?_)
  rw [List.length_map, List.length_range, hbits]

/-- Settles O22: the word is the big-endian number of its bytes, and that number is their weighted sum. -/
theorem blockParseIsBigEndian : Obligations.BlockParseIsBigEndian := by
  unfold Obligations.BlockParseIsBigEndian
  intro v n mem b t
  have hget : (block v n mem b)[t] = blockWord v n mem b t := Vector.getElem_ofFn t.isLt
  refine ⟨?_, by cases v <;> rfl⟩
  rw [hget, toNat_blockWord, beNat_map_range]

/-! ### The input checks and the PRE step (R185, R186) -/

theorem inputTooLarge_iff_v256 {n : Nat} (hn : n < 2 ^ 64) (v : Variant) :
    inputTooLarge v n = true ↔ v = .v256 ∧ 2 ^ 61 ≤ n := by
  rw [tooLarge_iff]
  cases v
  case v256 =>
    simp only [Variant.Lf, true_and]
    omega
  all_goals
    simp only [Variant.Lf, reduceCtorEq, false_and, iff_false]
    omega

/-- Settles O23: the checks are the comparisons of R185, and only a 64-bit length field is too short for a 64-bit `n`. -/
theorem inputChecks : Obligations.InputChecks := by
  unfold Obligations.InputChecks
  exact fun v n hn => ⟨tooLarge_iff v n, inputTooLarge_iff_v256 hn v, invalid_iff n⟩

theorem inputTooLarge_eq_false_iff (v : Variant) (n : Nat) : inputTooLarge v n = false ↔ 8 * n < 2 ^ v.Lf := by
  rw [← Bool.not_eq_true, tooLarge_iff, Nat.not_le]

theorem invalidInput_eq_false_iff (n : Nat) : invalidInput n = false ↔ n ≤ Config.MSG_CAP := by
  rw [← Bool.not_eq_true, invalid_iff, Nat.not_lt]

/-- Settles O24: the engine's turn in `PRE` is `stepPre`, whose three cases are the outcomes of the two checks in order. -/
theorem preStepChecksThenLoadsIv : Obligations.PreStepChecksThenLoadsIv := by
  unfold Obligations.PreStepChecksThenLoadsIv
  intro s hp
  rw [eng_pre s hp]
  refine ⟨fun hlarge => ?_, fun hfits hpast => ?_, fun hfits hin => ?_⟩
  · rw [stepPre_tooLarge s ((tooLarge_iff _ _).2 hlarge), raiseError]
  · rw [stepPre_invalid s ((inputTooLarge_eq_false_iff _ _).2 hfits) ((invalid_iff _).2 hpast), raiseError]
  · have hinvalid := (invalidInput_eq_false_iff _).2 hin
    exact ⟨_, toNat_blockCount s.VAR _ hinvalid,
      congrArg Host.Outcome.next (stepPre_ok s ((inputTooLarge_eq_false_iff _ _).2 hfits) hinvalid)⟩

end Sys2Proof.Machine
end

section
/-! The Scheduler (43_scheduler.md R200 to R203): what each word of the schedule is in terms of the words before it, the schedule
of the all-zero block, and the SCHED step. -/

namespace Sys2Proof.Machine

/-! ### The schedule function (R200) -/

/-- The last of `k + 1` new words is the next word after `k` of them. -/
theorem schedExtend_succ (f : Family) (k : Nat) (acc : List (BitVec f.w)) :
    schedExtend f (k + 1) acc = schedNext f (schedExtend f k acc) :: schedExtend f k acc := by
  induction k generalizing acc with
  | zero => rfl
  | succ k ih => rw [schedExtend, ih, schedExtend]

/-- A new word is the next word after the words behind it. -/
theorem getD_schedExtend {f : Family} {k i : Nat} (hi : i < k) (acc : List (BitVec f.w)) :
    (schedExtend f k acc).getD i 0 = schedNext f ((schedExtend f k acc).drop (i + 1)) := by
  induction k generalizing i with
  | zero => exact absurd hi (Nat.not_lt_zero i)
  | succ k ih =>
    rw [schedExtend_succ]
    cases i with
    | zero => rfl
    | succ i => exact ih (Nat.lt_of_succ_lt_succ hi)

theorem schedNext_drop (f : Family) (acc : List (BitVec f.w)) (n : Nat) :
    schedNext f (acc.drop n) =
      acc.getD (n + 15) 0 + smallSigma0 f (acc.getD (n + 14) 0) + acc.getD (n + 6) 0 +
        smallSigma1 f (acc.getD (n + 1) 0) := by
  simp only [schedNext, addW_eq, List.getD_eq_getElem?_getD, List.getElem?_drop]

/-- Word `t` of the schedule stands `R - 1 - t` places behind the latest word. -/
theorem getD_schedule (v : Variant) (blk : Vector (BitVec v.w) 16) {t : Nat} (ht : t < v.R) :
    (schedule v blk).getD t 0 = (schedExtend v.family (v.R - 16) blk.toList.reverse).getD (v.R - 1 - t) 0 := by
  have hlen : (schedExtend v.family (v.R - 16) blk.toList.reverse).length = v.R := by
    rw [← List.length_reverse, ← schedule, schedule_length]
  rw [schedule, List.getD_reverse t (hlen.symm ▸ ht), hlen]

/-- The recurrence of R200. -/
theorem getD_schedule_of_ge (v : Variant) (blk : Vector (BitVec v.w) 16) {t : Nat} (h16 : 16 ≤ t) (ht : t < v.R) :
    (schedule v blk).getD t 0 =
      (schedule v blk).getD (t - 16) 0 + smallSigma0 v.family ((schedule v blk).getD (t - 15) 0) +
        (schedule v blk).getD (t - 7) 0 + smallSigma1 v.family ((schedule v blk).getD (t - 2) 0) := by
  have hback : ∀ d, d < 16 → (schedule v blk).getD (t - (d + 1)) 0 =
      (schedExtend v.family (v.R - 16) blk.toList.reverse).getD (v.R - 1 - t + 1 + d) 0 := fun d hd => by
    rw [getD_schedule v blk (by omega)]
    congr 1
    omega
  rw [getD_schedule v blk ht, getD_schedExtend (by omega), schedNext_drop, hback 15 (by decide), hback 14 (by decide),
    hback 6 (by decide), hback 1 (by decide)]

theorem block_isPrefix_schedule (v : Variant) (blk : Vector (BitVec v.w) 16) : blk.toList <+: schedule v blk := by
  rw [← List.reverse_suffix, schedule, List.reverse_reverse]
  have h := List.drop_suffix (v.R - 16) (schedExtend v.family (v.R - 16) blk.toList.reverse)
  rwa [schedExtend_drop] at h

theorem getD_schedule_of_lt (v : Variant) (blk : Vector (BitVec v.w) 16) {t : Nat} (ht : t < 16) :
    (schedule v blk).getD t 0 = blk[t] := by
  have hlen : t < blk.toList.length := by rwa [Vector.length_toList]
  obtain ⟨rest, hrest⟩ := block_isPrefix_schedule v blk
  rw [← hrest, List.getD_append _ _ _ _ hlen, List.getD_eq_getElem _ _ hlen, Vector.getElem_toList]

/-- Settles O26: the length, the block as its first words, and a new word as the next word after those before it. -/
theorem scheduleRecurrence : Obligations.ScheduleRecurrence := by
  unfold Obligations.ScheduleRecurrence
  exact fun v blk => ⟨schedule_length v blk, fun t => getD_schedule_of_lt v blk t.isLt,
    fun _ h16 ht => getD_schedule_of_ge v blk h16 ht⟩

/-! ### The all-zero block (R202) -/

theorem rot2shr_zero {w a b : Nat} (c : Nat) (ha : a < w) (hb : b < w) : rot2shr (0 : BitVec w) a b c = 0 := by
  have hshr : shr (0 : BitVec w) c = 0 := BitVec.zero_ushiftRight
  rw [rot2shr, rotr_zero ha, rotr_zero hb, hshr, BitVec.xor_self, BitVec.zero_xor]

theorem smallSigma0_zero (f : Family) : smallSigma0 f 0 = 0 := by
  cases f <;> exact rot2shr_zero _ (by decide) (by decide)

theorem smallSigma1_zero (f : Family) : smallSigma1 f 0 = 0 := by
  cases f <;> exact rot2shr_zero _ (by decide) (by decide)

theorem getD_replicate_zero (w n i : Nat) : (List.replicate n (0 : BitVec w)).getD i 0 = 0 := by
  rw [List.getD_eq_getElem?_getD, List.getElem?_getD_replicate_default_eq]

theorem schedNext_replicate_zero (f : Family) (n : Nat) : schedNext f (List.replicate n 0) = 0 := by
  simp only [schedNext, addW_eq, getD_replicate_zero, smallSigma0_zero, smallSigma1_zero, add_zero]

theorem schedExtend_replicate_zero (f : Family) (k n : Nat) :
    schedExtend f k (List.replicate n 0) = List.replicate (k + n) 0 := by
  induction k with
  | zero => rw [schedExtend, Nat.zero_add]
  | succ k ih => rw [schedExtend_succ, ih, schedNext_replicate_zero, ← List.replicate_succ, Nat.succ_add]

theorem schedule_zero (v : Variant) : schedule v (Vector.replicate 16 0) = List.replicate (v.R - 16 + 16) 0 := by
  rw [schedule, Vector.toList_replicate, List.reverse_replicate, schedExtend_replicate_zero, List.reverse_replicate]

/-- Settles O28: both `σ` take 0 to 0, so 0 is the next word after zeros. -/
theorem zeroBlockHasZeroSchedule : Obligations.ZeroBlockHasZeroSchedule := by
  unfold Obligations.ZeroBlockHasZeroSchedule
  intro v t
  rw [schedule_zero, getD_replicate_zero]

/-! ### The SCHED step (R201 to R203) -/

theorem scheduleFile_get (v : Variant) (blk : Vector (BitVec v.w) 16) {t : Nat} (ht : t < 80) :
    (scheduleFile v blk)[t] = widen v.family ((schedule v blk).getD t 0) := by
  rw [scheduleFile, Vector.getElem_ofFn]

theorem scheduleFile_get_of_ge (v : Variant) (blk : Vector (BitVec v.w) 16) {t : Nat} (ht : t < 80) (hR : v.R ≤ t) :
    (scheduleFile v blk)[t] = 0 := by
  rw [scheduleFile_get, List.getD_eq_default _ _ ((schedule_length v blk).trans_le hR)]
  exact BitVec.setWidth_zero _ _

/-- Settles O27: the engine's turn in `SCHED` is `stepSched`, which stores the current block and its schedule, widened. -/
theorem schedStepLoadsOneBlock : Obligations.SchedStepLoadsOneBlock := by
  unfold Obligations.SchedStepLoadsOneBlock
  intro s hp
  exact ⟨widenAll s.VAR.family (currentBlock s), scheduleFile s.VAR (currentBlock s), eng_sched s hp,
    fun t => widenAll_get _ _ t t.isLt, fun t _ => scheduleFile_get _ _ t.isLt,
    fun t hR => scheduleFile_get_of_ge _ _ t.isLt hR⟩

end Sys2Proof.Machine
end

section
/-! The Compressor (44_compressor.md R216 to R224): the ROUND and FOLD steps as the spec writes them, the engine turns of one
block as one compression, and the registers on the pure functions in every step of every agent. -/

open Sys2Proof.Claims

namespace Sys2Proof.Machine

/-! ### The ROUND step (R216 to R218) -/

theorem temp1_narrowAll (s : State) :
    temp1 s.VAR.family (narrowAll s.VAR.family s.S) (roundConstant s.VAR s.J.toNat)
      (scheduleWord s.VAR.family s.W s.J.toNat) = t1 s := by
  simp only [temp1, addW_eq, narrowAll_get]
  rfl

theorem temp2_narrowAll (s : State) : temp2 s.VAR.family (narrowAll s.VAR.family s.S) = t2 s := by
  simp only [temp2, addW_eq, narrowAll_get]
  rfl


theorem widenAll_roundUpdate (f : Family) (S : Vector (BitVec f.w) 8) (k x : BitVec f.w) :
    widenAll f (roundUpdate f S k x) =
      #v[widen f (temp1 f S k x + temp2 f S), widen f S[0], widen f S[1], widen f S[2],
        widen f (S[3] + temp1 f S k x), widen f S[4], widen f S[5], widen f S[6]] := by
  rw [roundUpdate, addW_eq, addW_eq]
  rfl

/-- Settles O30: the engine's turn is `stepRound`, and its new working state is stored word by word, widened. -/
theorem roundStepUpdatesWorkingState : Obligations.RoundStepUpdatesWorkingState := by
  unfold Obligations.RoundStepUpdatesWorkingState
  intro s hp hj
  rw [eng_round s hp hj, stepRound, widenAll_roundUpdate]
  simp only [temp1_narrowAll s, temp2_narrowAll s, narrowAll_get]
  rfl

/-! ### The FOLD step (R222) -/

theorem foldWords_get (f : Family) (H S : Vector (BitVec f.w) 8) {i : Nat} (hi : i < 8) :
    (foldWords f H S)[i] = H[i] + S[i] := by
  rw [foldWords, Vector.getElem_ofFn]
  exact addW_eq _ _

theorem stepFold_H_get (s : State) {i : Nat} (hi : i < 8) :
    (stepFold s).H[i] = widen s.VAR.family (narrow s.VAR.family s.H[i] + narrow s.VAR.family s.S[i]) := by
  rw [stepFold, widenAll_get, foldWords_get, narrowAll_get, narrowAll_get]

/-- Settles O31: the engine's turn is `stepFold`, whose test at 32 bits compares the numbers. -/
theorem foldStepAddsWorkingState : Obligations.FoldStepAddsWorkingState := by
  unfold Obligations.FoldStepAddsWorkingState
  intro s hp hj
  exact ⟨(stepFold s).H, fun i => stepFold_H_get s i.isLt, eng_fold s hp hj⟩

/-! ### The working state over the rounds of a block (R224) -/

/-- A round reads the words of the schedule out of the file that SCHED wrote. -/
theorem scheduleWord_scheduleFile (v : Variant) (blk : Vector (BitVec v.w) 16) {j : Nat} (hj : j < v.R) :
    scheduleWord v.family (scheduleFile v blk) j = (schedule v blk).getD j 0 := by
  have h80 : j < 80 := hj.trans_le (R_range v).2
  rw [scheduleWord, Vector.getElem?_eq_getElem h80, Option.getD_some, scheduleFile_get, narrow_widen]

theorem toNat_J_stepRound {s : State} (hj : s.J.toNat < s.VAR.R) : (stepRound s).J.toNat = s.J.toNat + 1 := by
  have := R_range s.VAR
  simp only [stepRound]
  bv_omega

/-- One more round of the working state, seen at the variant's width. -/
theorem stepRound_S {s : State} {blk : Vector (BitVec s.VAR.w) 16} {Hin : Vector (BitVec s.VAR.w) 8}
    (hj : s.J.toNat < s.VAR.R) (hW : s.W = scheduleFile s.VAR blk)
    (hS : narrowAll s.VAR.family s.S = roundsFrom s.VAR (schedule s.VAR blk) Hin s.J.toNat) :
    (stepRound s).S = widenAll s.VAR.family (roundsFrom s.VAR (schedule s.VAR blk) Hin (s.J.toNat + 1)) := by
  simp only [stepRound, hW, hS, scheduleWord_scheduleFile s.VAR blk hj, roundsFrom]

/-- The fold of all `R(v)` rounds is the compression. -/
theorem stepFold_H {s : State} {blk : Vector (BitVec s.VAR.w) 16} (hj : s.J.toNat = s.VAR.R)
    (hS : narrowAll s.VAR.family s.S =
      roundsFrom s.VAR (schedule s.VAR blk) (narrowAll s.VAR.family s.H) s.J.toNat) :
    (stepFold s).H = widenAll s.VAR.family (compress s.VAR (narrowAll s.VAR.family s.H) blk) := by
  simp only [stepFold, hS, hj, compress]

/-! ### The engine turns of one block (R224) -/

theorem step_engine_cons {s : State} {ts : List Turn} (h : s.turns = .engine :: ts) :
    step s = engineTurn { s with turns := ts } := by
  rw [step_engine s (nextTurn_cons s _ _ h), takeTurn_cons s _ _ h]

/-- `k` engine turns in `COMP` are `k` rounds: they write only the working state and the round counter. -/
theorem run_rounds {s : State} {k : Nat} {rest : List Turn} {blk : Vector (BitVec s.VAR.w) 16}
    {Hin : Vector (BitVec s.VAR.w) 8} (hp : s.PHASE = .comp) (hk : s.J.toNat + k ≤ s.VAR.R)
    (hturns : s.turns = List.replicate k .engine ++ rest) (hW : s.W = scheduleFile s.VAR blk)
    (hS : narrowAll s.VAR.family s.S = roundsFrom s.VAR (schedule s.VAR blk) Hin s.J.toNat) :
    ∃ (S : Vector Word64 8) (J : Word32),
      Host.Core.run core k s = .next { s with S := S, J := J, turns := rest } ∧ J.toNat = s.J.toNat + k ∧
      narrowAll s.VAR.family S = roundsFrom s.VAR (schedule s.VAR blk) Hin J.toNat := by
  induction k generalizing s with
  | zero => exact ⟨s.S, s.J, by cases hturns; rfl, rfl, hS⟩
  | succ k ih =>
    have hj : s.J.toNat < s.VAR.R := by omega
    have hJ : (stepRound s).J.toNat = s.J.toNat + 1 := toNat_J_stepRound hj
    have hstep : step s = .next { stepRound s with turns := List.replicate k .engine ++ rest } :=
      (step_engine_cons hturns).trans (eng_round { s with turns := _ } hp hj)
    have hS' : narrowAll s.VAR.family (stepRound s).S =
        roundsFrom s.VAR (schedule s.VAR blk) Hin (stepRound s).J.toNat := by
      rw [hJ, stepRound_S hj hW hS, narrow_widenAll]
    have hk' : (stepRound s).J.toNat + k ≤ s.VAR.R := by omega
    obtain ⟨S, J, hrun, hJk, hSk⟩ :=
      ih (s := { stepRound s with turns := List.replicate k .engine ++ rest }) hp hk' rfl hW hS'
    exact ⟨S, J, (run_succ k _ _ hstep).trans hrun, hJk.trans (by simp only [hJ]; omega), hSk⟩

/-- From SCHED, `R(v) + 1` engine turns end at the FOLD of the block, with the accumulator as it was. -/
theorem run_sched_rounds {s : State} {rest : List Turn} (hp : s.PHASE = .sched)
    (hturns : s.turns = List.replicate (s.VAR.R + 1) .engine ++ rest) :
    ∃ (S : Vector Word64 8) (J : Word32),
      Host.Core.run core (s.VAR.R + 1) s = .next { stepSched s with S := S, J := J, turns := rest } ∧
      J.toNat = s.VAR.R ∧
      narrowAll s.VAR.family S =
        roundsFrom s.VAR (schedule s.VAR (currentBlock s)) (narrowAll s.VAR.family s.H) J.toNat := by
  obtain ⟨S, J, hrun, hJ, hS⟩ := run_rounds (k := s.VAR.R) (rest := rest) (blk := currentBlock s)
    (Hin := narrowAll s.VAR.family s.H) (s := { stepSched s with turns := List.replicate s.VAR.R .engine ++ rest })
    rfl (Nat.zero_add _).le rfl rfl rfl
  have hstep : step s = .next { stepSched s with turns := List.replicate s.VAR.R .engine ++ rest } :=
    (step_engine_cons hturns).trans (eng_sched { s with turns := _ } hp)
  exact ⟨S, J, (run_succ _ _ _ hstep).trans hrun, hJ.trans (Nat.zero_add _), hS⟩

/-- Settles O32: the SCHED step and the rounds lead to the FOLD step, which adds the rounds' working state. -/
theorem oneBlockIsOneCompression : Obligations.OneBlockIsOneCompression := by
  unfold Obligations.OneBlockIsOneCompression
  intro s rest hp hturns
  have hturns' : s.turns = List.replicate (s.VAR.R + 1) .engine ++ .engine :: rest := by
    rw [hturns, List.replicate_succ', List.append_assoc, List.singleton_append]
  obtain ⟨S, J, hrun, hJ, hS⟩ := run_sched_rounds hp hturns'
  have hfold := (step_engine_cons (s := { stepSched s with S := S, J := J, turns := .engine :: rest }) rfl).trans
    (eng_fold { stepSched s with S := S, J := J, turns := rest } rfl hJ)
  refine ⟨_, (run_add (s.VAR.R + 1) 1 _ _ hrun).trans (run_one hfold), ?_, rfl, rfl, rfl, rfl, fun _ => rfl, rfl⟩
  exact stepFold_H (s := { stepSched s with S := S, J := J, turns := .engine :: rest }) hJ hS

/-! ### The registers on the pure functions (R223, R224, R259) -/

theorem widenAll_narrowAll_initialValue (v : Variant) :
    widenAll v.family (narrowAll v.family (initialValue v)) = initialValue v := by
  cases v <;> decide

theorem computes_sched_iff {s : State} (hp : s.PHASE = .sched) :
    Computes s ↔ s.H = widenAll s.VAR.family (chainNow s s.BLK.toNat) := by
  unfold Computes
  rw [hp]

theorem computes_comp_iff {s : State} (hp : s.PHASE = .comp) :
    Computes s ↔ s.H = widenAll s.VAR.family (chainNow s s.BLK.toNat) ∧ s.W = scheduleFile s.VAR (currentBlock s) ∧
      s.S = widenAll s.VAR.family
        (roundsFrom s.VAR (schedule s.VAR (currentBlock s)) (chainNow s s.BLK.toNat) s.J.toNat) := by
  unfold Computes
  rw [hp]

theorem computes_asm_iff {s : State} (hp : s.PHASE = .asm) :
    Computes s ↔ s.H = hashFinal s.VAR (messageLength s) (msgByte s) := by
  unfold Computes
  rw [hp]

/-- Host effects on the buffer and the length come while not busy, and the other ones write no register of a
computation, or end it. -/
theorem HostEffect.computes {cmd : Option Word32} {s t : State} (he : HostEffect cmd s (.next t)) (hc : Computes s) :
    Computes t := by
  cases he
  case same | rejects | irqEn => exact hc
  case hash | abort | clear => exact computes_idle _ rfl
  case lenLo _ hb | lenHi _ hb | msg _ _ _ _ hb => exact computes_idle _ (counting_eq_false_of_busy_eq_false hb)

theorem hostTurn_computes {s t : State} (hc : Computes s) (h : hostTurn s = .next t) : Computes t := by
  obtain ⟨hs, ns, rs, -, he⟩ := hostTurn_effect s
  rw [h] at he
  exact he.computes hc

/-- The accumulator of zero blocks is the initial value. -/
theorem stepPre_computes (s : State) : Computes (stepPre s) := by
  cases hl : inputTooLarge s.VAR (messageLength s)
  case true =>
    rw [stepPre_tooLarge s hl]
    exact computes_idle _ rfl
  case false =>
    cases hi : invalidInput (messageLength s)
    case true =>
      rw [stepPre_invalid s hl hi]
      exact computes_idle _ rfl
    case false =>
      rw [stepPre_ok s hl hi, computes_sched_iff rfl]
      exact (widenAll_narrowAll_initialValue s.VAR).symm

/-- The working state of zero rounds is the accumulator. -/
theorem stepSched_computes {s : State} (hp : s.PHASE = .sched) (hc : Computes s) : Computes (stepSched s) := by
  have hH := (computes_sched_iff hp).1 hc
  exact (computes_comp_iff (s := stepSched s) rfl).2 ⟨hH, rfl, hH⟩

theorem stepRound_computes {s : State} (hp : s.PHASE = .comp) (hj : s.J.toNat < s.VAR.R) (hc : Computes s) :
    Computes (stepRound s) := by
  obtain ⟨hH, hW, hS⟩ := (computes_comp_iff hp).1 hc
  have hS' := stepRound_S hj hW (by rw [hS, narrow_widenAll])
  rw [← toNat_J_stepRound hj] at hS'
  exact (computes_comp_iff (s := stepRound s) hp).2 ⟨hH, hW, hS'⟩

/-- The fold takes the accumulator of `BLK` blocks to the one of `BLK + 1`. -/
theorem stepFold_H_chainNow {s : State} (hp : s.PHASE = .comp) (hj : s.J.toNat = s.VAR.R) (hc : Computes s) :
    (stepFold s).H = widenAll s.VAR.family (chainNow s (s.BLK.toNat + 1)) := by
  obtain ⟨hH, -, hS⟩ := (computes_comp_iff hp).1 hc
  have hHin : narrowAll s.VAR.family s.H = chainNow s s.BLK.toNat := by rw [hH, narrow_widenAll]
  rw [stepFold_H (blk := currentBlock s) hj (by rw [hHin, hS, narrow_widenAll]), hHin]
  rfl

theorem stepFold_computes {s : State} (hi : Inv s) (hp : s.PHASE = .comp) (hj : s.J.toNat = s.VAR.R)
    (hc : Computes s) : Computes (stepFold s) := by
  have hlt : s.BLK.toNat < s.NBLK.toNat := hi.blockLt (.inr hp)
  have hH := stepFold_H_chainNow hp hj hc
  have hB : (stepFold s).BLK.toNat = s.BLK.toNat + 1 := by
    simp only [stepFold]
    bv_omega
  rcases stepFold_phase hlt with ⟨hphase, -⟩ | ⟨hphase, hlast⟩
  · rw [computes_sched_iff hphase, hB]
    exact hH
  · have hN : s.BLK.toNat + 1 = blockCount s.VAR (messageLength s) := by
      rw [← hB, hlast]
      exact hi.blockCountIs (by rw [hp]; rfl)
    rw [hN] at hH
    exact computes_asm _ hphase hH

theorem engineTurn_computes {s t : State} (hi : Inv s) (hc : Computes s) (h : engineTurn s = .next t) :
    Computes t := by
  rcases eng_cases s with ⟨-, e⟩ | ⟨-, e⟩ | ⟨hp, e⟩ | ⟨hp, hj, e⟩ | ⟨hp, hj, e⟩ | ⟨-, -, e⟩ | ⟨-, e⟩ <;>
    rw [e] at h <;> cases h
  · exact hc
  · exact stepPre_computes s
  · exact stepSched_computes hp hc
  · exact stepRound_computes hp hj hc
  · exact stepFold_computes hi hp hj hc
  · exact computes_idle _ rfl

theorem step_computes {s t : State} (hi : Inv s) (hc : Computes s) (h : step s = .next t) : Computes t := by
  cases hn : nextTurn s
  case host => exact hostTurn_computes (s := takeTurn s) hc (step_host s hn ▸ h)
  case engine => exact engineTurn_computes hi.takeTurn hc (step_engine s hn ▸ h)
  case reset =>
    rw [step_reset s hn] at h
    cases h
    exact computes_idle _ rfl

/-! ### The step that enters `DONE` (R223) -/

/-- No effect of a host turn finishes a computation. -/
theorem HostEffect.done_of_done {cmd : Option Word32} {s t : State} (he : HostEffect cmd s (.next t))
    (hd : t.PHASE = .done) : s.PHASE = .done := by
  cases he
  case hash | abort | clear => cases hd
  all_goals exact hd

theorem hostTurn_done_of_done {s t : State} (h : hostTurn s = .next t) (hd : t.PHASE = .done) : s.PHASE = .done := by
  obtain ⟨hs, ns, rs, -, he⟩ := hostTurn_effect s
  rw [h] at he
  exact he.done_of_done hd

theorem stepPre_PHASE_ne_done (s : State) : (stepPre s).PHASE ≠ .done := by
  unfold stepPre
  split_ifs <;> exact nofun

theorem stepFold_PHASE_ne_done (s : State) : (stepFold s).PHASE ≠ .done := by
  unfold stepFold
  split_ifs <;> exact nofun

/-- The engine's turn enters `DONE` by the ASM step only. -/
theorem engineTurn_enters_done {s t : State} (h : engineTurn s = .next t) (hd : t.PHASE = .done)
    (hnd : s.PHASE ≠ .done) : s.PHASE = .asm ∧ t = stepAsm s := by
  rcases eng_cases s with ⟨-, e⟩ | ⟨-, e⟩ | ⟨-, e⟩ | ⟨-, -, e⟩ | ⟨-, -, e⟩ | ⟨-, -, e⟩ | ⟨hp, e⟩ <;>
    rw [e] at h <;> cases h
  · exact absurd hd hnd
  · exact absurd hd (stepPre_PHASE_ne_done s)
  · cases hd
  · exact absurd hd hnd
  · exact absurd hd (stepFold_PHASE_ne_done s)
  · exact ⟨hp, rfl⟩

theorem step_enters_done {s t : State} (h : step s = .next t) (hd : t.PHASE = .done) (hnd : s.PHASE ≠ .done) :
    s.PHASE = .asm ∧ t = stepAsm (takeTurn s) := by
  cases hn : nextTurn s
  case host => exact absurd (hostTurn_done_of_done (s := takeTurn s) (step_host s hn ▸ h) hd) hnd
  case engine => exact engineTurn_enters_done (s := takeTurn s) (step_engine s hn ▸ h) hd hnd
  case reset =>
    rw [step_reset s hn] at h
    cases h
    cases hd

/-- Settles O40: `step_computes`, and the step that enters `DONE` is ASM, which keeps the accumulator and writes its
digest. -/
theorem stepsComputeTheHash : Obligations.StepsComputeTheHash := by
  unfold Obligations.StepsComputeTheHash
  refine ⟨fun s t => step_computes, fun s t _ hc h hd hnd => ?_⟩
  obtain ⟨hp, rfl⟩ := step_enters_done h hd hnd
  have hH : s.H = hashFinal s.VAR (messageLength s) (msgByte s) := (computes_asm_iff hp).1 hc
  exact ⟨hH, congrArg (digestFile s.VAR) hH⟩

end Sys2Proof.Machine
end

section
/-! The Digest assembler (45_digest.md R235 to R240): which character of which word each byte of the digest is, the zeros after
them, and the ASM step. -/

namespace Sys2Proof.Machine

/-! ### Lists built of pieces of one length -/

/-- Element `i * d + q` is element `q` of piece `i`, where every piece has `d` elements. -/
theorem getElem?_flatMap_of_length {α β : Type} {f : α → List β} {d : Nat} (hf : ∀ x, (f x).length = d) {q : Nat}
    (hq : q < d) (l : List α) (i : Nat) : (l.flatMap f)[i * d + q]? = l[i]?.bind fun x => (f x)[q]? := by
  induction l generalizing i with
  | nil => rfl
  | cons x l ih =>
    rw [List.flatMap_cons]
    cases i with
    | zero => simp [List.getElem?_append_left (hf x ▸ hq)]
    | succ i =>
      have hskip : (i + 1) * d + q - (f x).length = i * d + q := by rw [hf x, Nat.succ_mul]; omega
      have hge : (f x).length ≤ (i + 1) * d + q := by rw [hf x, Nat.succ_mul]; omega
      rw [List.getElem?_append_right hge, hskip, ih, List.getElem?_cons_succ]

/-! ### The digits (R236, R237) -/

theorem hexDigit_toNat_of_lt {x : BitVec 4} (h : x.toNat < 10) : (hexDigit x).toNat = 0x30 + x.toNat := by
  rw [hexDigit, if_pos h, BitVec.toNat_ofNat]
  omega

theorem hexDigit_toNat_of_ge {x : BitVec 4} (h : 10 ≤ x.toNat) : (hexDigit x).toNat = 0x61 + (x.toNat - 10) := by
  rw [hexDigit, if_neg (by omega), BitVec.toNat_ofNat]
  omega

/-! ### The sizes of the digest (46_variant_config.md R250) -/

theorem OW_le_eight (v : Variant) : v.OW ≤ 8 := by
  cases v <;> decide

theorem four_dvd_w (v : Variant) : 4 ∣ v.w := by
  cases v <;> decide

/-! ### The digest string (R235, R236, R240) -/

@[simp] theorem hexWord_length {w : Nat} (d : Nat) (x : BitVec w) : (hexWord d x).length = d := by
  simp [hexWord]

theorem hexWord_getElem? {w : Nat} {d q : Nat} (hq : q < d) (x : BitVec w) :
    (hexWord d x)[q]? = some (hexDigit (x.extractLsb' (4 * (d - 1 - q)) 4)) := by
  simp [hexWord, hq]

theorem digestString_length (v : Variant) (H : Vector Word64 8) :
    (digestString v H).length = v.OW * (v.w / 4) := by
  have hwords : (H.toList.take v.OW).length = v.OW := by
    rw [List.length_take, Vector.length_toList, Nat.min_eq_left (OW_le_eight v)]
  simp only [digestString, List.length_flatMap, hexWord_length, List.map_const', List.sum_replicate_nat, hwords]

theorem digestString_getElem? {v : Variant} (H : Vector Word64 8) {i : Fin 8} {q : Nat} (hi : i.val < v.OW)
    (hq : q < v.w / 4) : (digestString v H)[i.val * (v.w / 4) + q]? =
      some (hexDigit ((narrow v.family H[i]).extractLsb' (4 * (v.w / 4 - 1 - q)) 4)) := by
  have hword : (H.toList.take v.OW)[i.val]? = some H[i] := by
    simp [List.getElem?_take_of_lt hi]
  rw [digestString, getElem?_flatMap_of_length (fun x => hexWord_length _ _) hq, hword, Option.bind_some,
    hexWord_getElem? hq]

/-! ### The digest file and the ASM step (R238) -/

theorem digestFile_get (v : Variant) (H : Vector Word64 8) (k : Fin 128) :
    (digestFile v H)[k] = (digestString v H).getD k 0x00 := by
  rw [digestFile, Fin.getElem_fin, Vector.getElem_ofFn]

theorem digestFile_get_of_ge (v : Variant) (H : Vector Word64 8) {k : Fin 128}
    (hk : (digestString v H).length ≤ k.val) : (digestFile v H)[k] = 0x00 := by
  rw [digestFile_get, List.getD_eq_default _ _ hk]

theorem digestFile_get_digit {v : Variant} (H : Vector Word64 8) {i : Fin 8} {q : Nat} {k : Fin 128}
    (hi : i.val < v.OW) (hq : q < v.w / 4) (hk : k.val = i.val * (v.w / 4) + q) :
    (digestFile v H)[k] = hexDigit ((narrow v.family H[i]).extractLsb' (4 * (v.w / 4 - 1 - q)) 4) := by
  rw [digestFile_get, List.getD_eq_getElem?_getD, hk, digestString_getElem? H hi hq, Option.getD_some]

/-- Settles O33: a byte of the digest is a digit of `digestString`, the concatenation of words of one length, or past it. -/
theorem digestCharacters : Obligations.DigestCharacters := by
  unfold Obligations.DigestCharacters
  refine ⟨fun v H => ⟨fun i q k => digestFile_get_digit H, fun k hk => ?_, digestString_length v H⟩,
    fun x => ⟨hexDigit_toNat_of_lt, hexDigit_toNat_of_ge⟩⟩
  exact digestFile_get_of_ge v H (digestString_length v H ▸ hk)

/-- Settles O34: the engine's turn in `ASM` is `stepAsm`, and the bytes it writes are those of `digestFile`. -/
theorem asmStepWritesTheDigest : Obligations.AsmStepWritesTheDigest := by
  unfold Obligations.AsmStepWritesTheDigest
  refine fun s hp => ⟨digestFile s.VAR s.H, eng_asm s hp, fun k _ => digestFile_get _ _ k,
    fun k => digestFile_get_of_ge _ _, ?_⟩
  rw [digestString_length, Nat.mul_div_assoc _ (four_dvd_w s.VAR)]

end Sys2Proof.Machine
end

section
/-! The engine's sequencing, one action at a time (46_variant_config.md R251 to R260): the constant tables, what failed checks
leave, the step relation and its one fault, and what a host turn may change while the engine is busy. -/

open Sys2Proof.Claims

namespace Sys2Proof.Machine

/-! ### The constant tables (R251 to R254) -/

theorem map_roundConstant_v256 : (List.range 64).map (roundConstant .v256) = specK256 := by decide

theorem map_roundConstant_v512 : (List.range 80).map (roundConstant .v512) = specK512 := by decide

/-- The high halves of the first 64 constants of `K_512` are `K_256` (R251). -/
theorem roundConstant_v512_high (j : Fin 64) :
    (roundConstant .v512 j.val).extractLsb' 32 32 = roundConstant .v256 j.val := by
  revert j
  decide

/-- `IV_512` against the two other initial values, word by word (R253, R254). -/
theorem initialValue_v512_relations (i : Fin 8) :
    (initialValue .v512)[i].extractLsb' 32 32 = (initialValue .v256)[i].extractLsb' 0 32 ∧
      (initialValue .v384)[i] ≠ (initialValue .v512)[i] := by
  revert i
  decide

/-- Settles O35: the tables are the spec's, value by value, and the relations are checked at every index. -/
theorem constantTables : Obligations.ConstantTables := by
  unfold Obligations.ConstantTables
  exact ⟨map_roundConstant_v256, map_roundConstant_v512, map_roundConstant_v512, rfl, rfl, rfl, roundConstant_v512_high,
    initialValue_v512_relations⟩

/-! ### The PRE step on failed checks (R185, R272) -/

/-- The code of the first failed check. -/
theorem stepPre_of_failed {s : State} (h : 2 ^ s.VAR.Lf ≤ 8 * s.MSG_LEN.toNat ∨ Config.MSG_CAP < s.MSG_LEN.toNat) :
    stepPre s =
      raiseError (if 2 ^ s.VAR.Lf ≤ 8 * s.MSG_LEN.toNat then .inputTooLarge else .invalidInput) s := by
  split_ifs with hlarge
  · exact stepPre_tooLarge s ((tooLarge_iff _ _).2 hlarge)
  · exact stepPre_invalid s ((inputTooLarge_eq_false_iff _ _).2 (Nat.lt_of_not_le hlarge))
      ((invalid_iff _).2 (h.resolve_left hlarge))

theorem hostRead_H_of_cleared {s : State} (h : s.H = Vector.replicate 8 0) (i : Fin 8) :
    hostRead s (0x100 + 8 * i.val) = 0 ∧ hostRead s (0x104 + 8 * i.val) = 0 := by
  rw [hostRead_of_locate (locate_hLo i), hostRead_of_locate (locate_hHi i), readLocation, readLocation, h, Fin.getElem_fin,
    Vector.getElem_replicate]
  decide

theorem hostRead_digest_of_cleared {s : State} (h : s.DIGEST = Vector.replicate 128 0) (k : Fin 32) :
    hostRead s (0x200 + 4 * k.val) = 0 := by
  rw [hostRead_of_locate (locate_digestHex k), readLocation, digestWord, h]
  simp only [Vector.getElem_replicate]
  decide

/-- Settles O25: the error is raised over the cleared registers of `PRE`. -/
theorem failedChecksLeaveNoOutput : Obligations.FailedChecksLeaveNoOutput := by
  unfold Obligations.FailedChecksLeaveNoOutput
  intro s hi hp hfail
  obtain ⟨hH, hN, hB, hJ⟩ := hi.cleared (.inl hp)
  have hD : s.DIGEST = Vector.replicate 128 0 := hi.noDigest (.inl (by rw [hp]; rfl))
  exact ⟨_, (eng_pre s hp).trans (congrArg _ (stepPre_of_failed hfail)), rfl, rfl, hi.done_eq_false (by simp [hp]), rfl,
    hostRead_H_of_cleared hH, hostRead_digest_of_cleared hD, hN, hB, hJ, rfl, rfl, fun _ => rfl⟩

/-! ### The step relation and its fault (R256) -/

theorem stepPre_PHASE (s : State) :
    (stepPre s).PHASE =
      if inputTooLarge s.VAR (messageLength s) = true ∨ invalidInput (messageLength s) = true then .error
      else .sched := by
  cases hl : inputTooLarge s.VAR (messageLength s)
  case true => rw [stepPre_tooLarge s hl, if_pos (.inl rfl), raiseError_PHASE]
  case false =>
    cases hc : invalidInput (messageLength s)
    case true => rw [stepPre_invalid s hl hc, if_pos (.inr rfl), raiseError_PHASE]
    case false => rw [stepPre_ok s hl hc, if_neg (by decide)]

/-- Settles O36: each row is the engine's turn in its phase, and `stepFold_phase` is the end of a block. -/
theorem engineStepRelation : Obligations.EngineStepRelation := by
  unfold Obligations.EngineStepRelation
  intro s hi
  refine ⟨fun hp => eng_idle s ((busy_eq_false_iff_notBusy s).2 hp), fun hp => ⟨eng_pre s hp, stepPre_PHASE s⟩,
    fun hp => ⟨eng_sched s hp, rfl⟩, fun hp hj => ⟨eng_round s hp hj, hp⟩, fun hp hj => ?_, fun _ => hi.roundLe,
    fun hp => ⟨eng_asm s hp, rfl⟩⟩
  have hlt : s.BLK.toNat < s.NBLK.toNat := hi.blockLt (.inr hp)
  have hcond : s.BLK + 1 < s.NBLK ↔ s.BLK.toNat + 1 < s.NBLK.toNat := by bv_omega
  exact ⟨eng_fold s hp hj, fun h => if_pos (hcond.2 h), fun h => if_neg (mt hcond.1 h.not_lt), hlt⟩

theorem engineTurn_fault_iff (s : State) (r : Fault) :
    engineTurn s = .fault r ↔ s.PHASE = .comp ∧ s.VAR.R < s.J.toNat ∧ r = .internalInvariantViolation := by
  constructor
  · intro h
    rcases eng_cases s with ⟨-, e⟩ | ⟨-, e⟩ | ⟨-, e⟩ | ⟨-, -, e⟩ | ⟨-, -, e⟩ | ⟨hp, hj, e⟩ | ⟨-, e⟩ <;>
      rw [e] at h <;> cases h
    exact ⟨hp, hj, rfl⟩
  · rintro ⟨hp, hj, rfl⟩
    exact eng_fault s hp hj

/-- Settles O57: a host turn and a reset always answer a next state, and the engine's turn is `engineTurn_fault_iff`. -/
theorem theOnlyFault : Obligations.TheOnlyFault := by
  unfold Obligations.TheOnlyFault
  intro s r
  cases hn : nextTurn s
  case host =>
    obtain ⟨t, ht⟩ := hostTurn_next (takeTurn s)
    simp [step_host s hn, ht]
  case engine => simpa [step_engine s hn] using engineTurn_fault_iff (takeTurn s) r
  case reset => simp [step_reset s hn]

/-! ### What a host turn may change while the engine is busy (R260, R65) -/

/-- `t` is `s` but for the rejection record, `IRQ_EN` and the host's lines, names and response. -/
def Undisturbed (s t : State) : Prop :=
  t = { s with REJ := t.REJ, REJ_CAUSE := t.REJ_CAUSE, REJ_ADDR := t.REJ_ADDR, REJ_DATA := t.REJ_DATA,
               IRQ_EN := t.IRQ_EN, host := t.host, names := t.names, response := t.response }

/-- The other effects of a host turn come while not busy only, or are ABORT's. -/
theorem HostEffect.undisturbed {cmd : Option Word32} {s t : State} (he : HostEffect cmd s (.next t))
    (hb : s.busy = true) (hcmd : ∀ c, cmd = some c → decode c ≠ .ok .abort) : Undisturbed s t := by
  cases he
  case same | rejects | irqEn => rfl
  case abort c hc hd => exact absurd hd (hcmd c hc)
  case hash h | clear h | lenLo h | lenHi h | msg h => exact absurd (hb.symm.trans h) (by decide)

theorem hostTurn_undisturbed {s : State} (hb : s.busy = true)
    (hcmd : ∀ c rest, writesCommand s c rest → decode c ≠ .ok .abort) :
    ∃ t, hostTurn s = .next t ∧ Undisturbed s t := by
  obtain ⟨t, ht⟩ := hostTurn_next s
  obtain ⟨hs, ns, rs, -, he⟩ := hostTurn_effect s
  rw [ht] at he
  refine ⟨t, ht, he.undisturbed hb fun c hc => ?_⟩
  obtain ⟨rest, hw⟩ := (nextCommand_iff s c).1 hc
  exact hcmd c rest hw

/-- Settles O38: the effects of a host turn, one by one. -/
theorem hostCannotDisturbAComputation : Obligations.HostCannotDisturbAComputation := by
  unfold Obligations.HostCannotDisturbAComputation
  exact fun s => hostTurn_undisturbed

end Sys2Proof.Machine
end

section
/-! The engine turns of a computation counted (46_variant_config.md R257 to R260): the turns until the engine's next one, what
a busy engine's step takes from the engine turns left, and so the end of a computation and its digest in every
interleaving. -/

open Sys2Proof.Claims

namespace Sys2Proof.Machine

/-! ### The turns until the engine's next one (R258) -/

/-- How many turns may pass before the engine's: those given, then the free ones of the wait. -/
def untilEngine (s : State) : Nat := s.turns.length + s.wait

theorem untilEngine_takeTurn {s : State} (hn : nextTurn s ≠ .engine) : untilEngine (takeTurn s) + 1 = untilEngine s := by
  unfold untilEngine
  cases ht : s.turns with
  | nil =>
    have hw : s.wait ≠ 0 := fun hw => hn (by simp [nextTurn, ht, hw])
    simp [ht, hw]
    omega
  | cons t ts => simp [ht]; omega

theorem untilEngine_step {s t : State} (h : step s = .next t) (hn : nextTurn s ≠ .engine) :
    untilEngine t + 1 = untilEngine s := by
  obtain ⟨-, hturns, -, hwait, -⟩ := step_keeps s t h
  rw [← untilEngine_takeTurn hn, untilEngine, untilEngine, hturns, hwait]

theorem step_next_of_ne_engine {s : State} (hn : nextTurn s ≠ .engine) : ∃ t, step s = .next t := by
  cases hturn : nextTurn s
  case host => exact step_host s hturn ▸ hostTurn_next (takeTurn s)
  case engine => exact absurd hturn hn
  case reset => exact ⟨_, step_reset s hturn⟩

theorem exists_run_nextTurn_engine (s : State) : ∃ k t, Host.Core.run core k s = .next t ∧ nextTurn t = .engine := by
  by_cases hn : nextTurn s = .engine
  · exact ⟨0, s, rfl, hn⟩
  · obtain ⟨u, hu⟩ := step_next_of_ne_engine hn
    have := untilEngine_step hu hn
    obtain ⟨k, t, hrun, ht⟩ := exists_run_nextTurn_engine u
    exact ⟨k + 1, t, (run_succ k s u hu).trans hrun, ht⟩
termination_by untilEngine s

/-! ### The engine turns left (R257) -/

theorem stepsLeft_idle {s : State} (hb : s.busy = false) : stepsLeft s = 0 := by
  unfold stepsLeft
  rcases (busy_eq_false_iff_notBusy s).1 hb with hp | hp | hp <;> rw [hp]

theorem stepsLeft_pre {s : State} (hp : s.PHASE = .pre) :
    stepsLeft s =
      if 2 ^ s.VAR.Lf ≤ 8 * s.MSG_LEN.toNat ∨ Config.MSG_CAP < s.MSG_LEN.toNat then 1
      else 2 + blockCount s.VAR s.MSG_LEN.toNat * (s.VAR.R + 2) := by
  rw [stepsLeft, hp]
  exact if_congr (by rw [Bool.or_eq_true, tooLarge_iff, invalid_iff]; rfl) rfl rfl

theorem stepsLeft_sched {s : State} (hp : s.PHASE = .sched) :
    stepsLeft s = (s.NBLK.toNat - s.BLK.toNat) * (s.VAR.R + 2) + 1 := by
  rw [stepsLeft, hp]

theorem stepsLeft_comp {s : State} (hp : s.PHASE = .comp) :
    stepsLeft s = (s.VAR.R - s.J.toNat) + 1 + (s.NBLK.toNat - s.BLK.toNat - 1) * (s.VAR.R + 2) + 1 := by
  rw [stepsLeft, hp]

theorem stepsLeft_asm {s : State} (hp : s.PHASE = .asm) : stepsLeft s = 1 := by
  rw [stepsLeft, hp]

theorem stepsLeft_pos {s : State} (hb : s.busy = true) : 0 < stepsLeft s := by
  rcases (busy_iff_inBusyPhase s).1 hb with hp | hp | hp | hp
  · rw [stepsLeft_pre hp]
    split_ifs <;> omega
  · exact stepsLeft_sched hp ▸ Nat.succ_pos _
  · exact stepsLeft_comp hp ▸ Nat.succ_pos _
  · exact stepsLeft_asm hp ▸ Nat.one_pos

theorem stepsLeft_eq_zero_iff (s : State) : stepsLeft s = 0 ↔ s.busy = false :=
  ⟨fun h => Bool.eq_false_iff.2 fun hb => (stepsLeft_pos hb).ne' h, stepsLeft_idle⟩

theorem busy_of_stepsLeft_pos {s : State} (h : 0 < stepsLeft s) : s.busy = true :=
  Bool.of_not_eq_false fun hb => h.ne' (stepsLeft_idle hb)

/-! ### The positions a computation holds (R41, R43, R66) -/

/-- The counters are at a position of the step relation, and the block count is the message's own. It is what the steps of a
computation need of `Inv`, and in `PRE` it asks nothing. -/
structure Positioned (s : State) : Prop where
  roundLe : s.PHASE = .comp → s.J.toNat ≤ s.VAR.R
  blockLt : s.PHASE = .sched ∨ s.PHASE = .comp → s.BLK.toNat < s.NBLK.toNat
  blockEq : s.PHASE = .asm → s.BLK = s.NBLK
  blockCountIs : s.PHASE.counting = true → s.NBLK.toNat = blockCount s.VAR (messageLength s)

theorem Inv.positioned {s : State} (h : Inv s) : Positioned s where
  roundLe _ := h.roundLe
  blockLt := h.blockLt
  blockEq hp := h.blockEq (.inl hp)
  blockCountIs := h.blockCountIs

theorem Positioned.turnTaken {s : State} (h : Positioned s) : Positioned (takeTurn s) := { h with }

/-- Outside the block loop no position is asked for. -/
theorem positioned_of_not_counting {s : State} (h : s.PHASE.counting = false) : Positioned s where
  roundLe hp := by simp [hp, Phase.counting] at h
  blockLt hp := by rcases hp with hp | hp <;> simp [hp, Phase.counting] at h
  blockEq hp := by simp [hp, Phase.counting] at h
  blockCountIs hp := absurd (h.symm.trans hp) Bool.false_ne_true

/-- `t` has the variant, the length and the message bytes of `s`. -/
def SameMessage (s t : State) : Prop := t.VAR = s.VAR ∧ t.MSG_LEN = s.MSG_LEN ∧ msgByte t = msgByte s

theorem SameMessage.trans {s t u : State} (h : SameMessage s t) (h' : SameMessage t u) : SameMessage s u :=
  ⟨h'.1.trans h.1, h'.2.1.trans h.2.1, h'.2.2.trans h.2.2⟩

/-- What a step of a busy engine that costs `n` engine turns keeps of its computation. -/
structure Advances (n : Nat) (s t : State) : Prop where
  positioned : Positioned t
  phase : t.PHASE ≠ .idle
  message : SameMessage s t
  computes : Computes s → Computes t
  count : stepsLeft t + n = stepsLeft s

theorem Undisturbed.advances {s t : State} (h : Undisturbed s t) (hb : s.busy = true) (hp : Positioned s) :
    Advances 0 s t := by
  have hphase : s.PHASE ≠ .idle := fun hc => by simp [State.busy, hc, Phase.busy] at hb
  rw [h]
  exact ⟨{ hp with }, hphase, ⟨rfl, rfl, rfl⟩, id, rfl⟩

/-- Taking the turn is no part of the computation. -/
theorem Advances.of_takeTurn {n : Nat} {s t : State} (h : Advances n (takeTurn s) t) : Advances n s t := { h with }

theorem stepPre_advances_of_ok {s : State} (hp : s.PHASE = .pre) (hl : 8 * s.MSG_LEN.toNat < 2 ^ s.VAR.Lf)
    (hc : s.MSG_LEN.toNat ≤ Config.MSG_CAP) : Advances 1 s (stepPre s) := by
  have hinvalid := (invalidInput_eq_false_iff _).2 hc
  have hN : (BitVec.ofNat 32 (blockCount s.VAR (messageLength s))).toNat = _ := toNat_blockCount s.VAR _ hinvalid
  have hcount := stepsLeft_pre hp
  rw [if_neg (by omega)] at hcount
  have hcomputes := stepPre_computes s
  rw [stepPre_ok s ((inputTooLarge_eq_false_iff _ _).2 hl) hinvalid] at hcomputes ⊢
  refine ⟨⟨nofun, fun _ => hN.symm ▸ blockCount_pos s.VAR _, nofun, fun _ => hN⟩, nofun, ⟨rfl, rfl, rfl⟩,
    fun _ => hcomputes, ?_⟩
  rw [stepsLeft_sched rfl, hcount, Nat.add_comm 2]
  exact congrArg (· * _ + 2) hN

theorem stepPre_advances {s : State} (hp : s.PHASE = .pre) : Advances 1 s (stepPre s) := by
  by_cases h : 2 ^ s.VAR.Lf ≤ 8 * s.MSG_LEN.toNat ∨ Config.MSG_CAP < s.MSG_LEN.toNat
  · have hcount := stepsLeft_pre hp
    rw [if_pos h] at hcount
    rw [stepPre_of_failed h]
    exact ⟨positioned_of_not_counting rfl, nofun, ⟨rfl, rfl, rfl⟩, fun _ => computes_idle _ rfl, hcount.symm⟩
  · obtain ⟨hl, hc⟩ := not_or.1 h
    exact stepPre_advances_of_ok hp (Nat.lt_of_not_le hl) (Nat.le_of_not_lt hc)

theorem Positioned.stepSched_advances {s : State} (h : Positioned s) (hp : s.PHASE = .sched) :
    Advances 1 s (stepSched s) := by
  have hlt := h.blockLt (.inl hp)
  refine ⟨⟨fun _ => Nat.zero_le _, fun _ => hlt, nofun, fun _ => h.blockCountIs (by rw [hp]; rfl)⟩, nofun,
    ⟨rfl, rfl, rfl⟩, stepSched_computes hp, ?_⟩
  have hblock : (s.NBLK.toNat - s.BLK.toNat) * (s.VAR.R + 2) =
      (s.NBLK.toNat - s.BLK.toNat - 1) * (s.VAR.R + 2) + (s.VAR.R + 2) := by
    rw [← Nat.succ_mul, Nat.succ_eq_add_one, Nat.sub_add_cancel (Nat.sub_pos_of_lt hlt)]
  have hJ : (stepSched s).J.toNat = 0 := rfl
  rw [stepsLeft_sched hp, stepsLeft_comp (s := stepSched s) rfl, hJ, hblock]
  simp only [stepSched]
  omega

theorem Positioned.stepRound_advances {s : State} (h : Positioned s) (hp : s.PHASE = .comp) (hj : s.J.toNat < s.VAR.R) :
    Advances 1 s (stepRound s) := by
  have hJ := toNat_J_stepRound hj
  refine ⟨⟨fun _ => hJ.trans_le hj, h.blockLt, h.blockEq, h.blockCountIs⟩, by simp [stepRound, hp],
    ⟨rfl, rfl, rfl⟩, stepRound_computes hp hj, ?_⟩
  rw [stepsLeft_comp hp, stepsLeft_comp (s := stepRound s) hp, hJ]
  simp only [stepRound]
  omega

theorem toNat_BLK_stepFold {s : State} (h : s.BLK.toNat < s.NBLK.toNat) :
    (stepFold s).BLK.toNat = s.BLK.toNat + 1 := by
  simp only [stepFold]
  bv_omega

/-- A fold that goes on finds the accumulator of its new block, and the last one `Hfinal_v(m)`. -/
theorem Positioned.stepFold_computes {s : State} (h : Positioned s) (hp : s.PHASE = .comp) (hj : s.J.toNat = s.VAR.R)
    (hc : Computes s) : Computes (stepFold s) := by
  have hlt := h.blockLt (.inr hp)
  have hH := stepFold_H_chainNow hp hj hc
  rw [← toNat_BLK_stepFold hlt] at hH
  rcases stepFold_phase hlt with ⟨hphase, -⟩ | ⟨hphase, hlast⟩
  · exact (computes_sched_iff hphase).2 hH
  · rw [hlast, h.blockCountIs (by rw [hp]; rfl)] at hH
    exact computes_asm _ hphase hH

theorem Positioned.stepFold_advances {s : State} (h : Positioned s) (hp : s.PHASE = .comp) (hj : s.J.toNat = s.VAR.R) :
    Advances 1 s (stepFold s) := by
  have hlt := h.blockLt (.inr hp)
  have hcount : s.NBLK.toNat = _ := h.blockCountIs (by rw [hp]; rfl)
  have hB := toNat_BLK_stepFold hlt
  rcases stepFold_phase hlt with ⟨hphase, hB'⟩ | ⟨hphase, hB'⟩
  · refine ⟨⟨by simp [hphase], fun _ => hB', by simp [hphase], fun _ => hcount⟩, by simp [hphase],
      ⟨rfl, rfl, rfl⟩, h.stepFold_computes hp hj, ?_⟩
    rw [stepsLeft_sched hphase, stepsLeft_comp hp, hB, hj, Nat.sub_self, Nat.sub_add_eq]
    simp only [stepFold]
    omega
  · refine ⟨⟨by simp [hphase], by simp [hphase], fun _ => hB', fun _ => hcount⟩, by simp [hphase],
      ⟨rfl, rfl, rfl⟩, h.stepFold_computes hp hj, ?_⟩
    have hlast : s.NBLK.toNat - s.BLK.toNat - 1 = 0 := by rw [← hB', hB]; omega
    rw [stepsLeft_asm hphase, stepsLeft_comp hp, hj, hlast]
    omega

theorem stepAsm_advances {s : State} (hp : s.PHASE = .asm) : Advances 1 s (stepAsm s) :=
  ⟨positioned_of_not_counting rfl, nofun, ⟨rfl, rfl, rfl⟩, fun _ => computes_idle _ rfl, (stepsLeft_asm hp).symm⟩

theorem Positioned.engineTurn_advances {s : State} (h : Positioned s) (hb : s.busy = true) :
    ∃ t, engineTurn s = .next t ∧ Advances 1 s t := by
  rcases eng_cases s with ⟨hn, -⟩ | ⟨hp, e⟩ | ⟨hp, e⟩ | ⟨hp, hj, e⟩ | ⟨hp, hj, e⟩ | ⟨hp, hj, -⟩ | ⟨hp, e⟩
  · exact absurd (hb.symm.trans hn) (by decide)
  · exact ⟨_, e, stepPre_advances hp⟩
  · exact ⟨_, e, h.stepSched_advances hp⟩
  · exact ⟨_, e, h.stepRound_advances hp hj⟩
  · exact ⟨_, e, h.stepFold_advances hp hj⟩
  · exact absurd (h.roundLe hp) (Nat.not_le_of_lt hj)
  · exact ⟨_, e, stepAsm_advances hp⟩

/-- The engine turns that the next step takes. -/
def turnCost (s : State) : Nat := if nextTurn s = .engine then 1 else 0

theorem turnCost_of_engine {s : State} (hn : nextTurn s = .engine) : turnCost s = 1 := if_pos hn

theorem turnCost_of_ne_engine {s : State} (hn : nextTurn s ≠ .engine) : turnCost s = 0 := if_neg hn

theorem count_engine_turns_cons {s : State} {turn : Turn} {ts : List Turn} (hn : nextTurn s = turn) :
    (turn :: ts).count .engine = ts.count .engine + turnCost s := by
  rw [List.count_cons, turnCost, hn]
  simp

/-- One step of a computation that is neither reset nor aborted. -/
theorem Positioned.step_advances {s : State} (h : Positioned s) (hb : s.busy = true) (hreset : nextTurn s ≠ .reset)
    (habort : ¬ abortsNext s) : ∃ t, step s = .next t ∧ Advances (turnCost s) s t := by
  cases hn : nextTurn s
  case host =>
    have hcost := turnCost_of_ne_engine (s := s) (by simp [hn])
    obtain ⟨t, ht, hu⟩ := hostTurn_undisturbed (s := takeTurn s) hb fun c rest hw hd =>
      habort ⟨hn, c, rest, (writesCommand_congr s (takeTurn s) rfl rfl rfl c rest).1 hw, hd⟩
    exact ⟨t, (step_host s hn).trans ht, hcost ▸ (hu.advances hb h.turnTaken).of_takeTurn⟩
  case engine =>
    have hcost := turnCost_of_engine hn
    obtain ⟨t, ht, ha⟩ := h.turnTaken.engineTurn_advances hb
    exact ⟨t, (step_engine s hn).trans ht, hcost ▸ ha.of_takeTurn⟩
  case reset => exact absurd hn hreset

/-! ### Progress (R258) -/

theorem engineTurns_succ {s t : State} (h : step s = .next t) (k : Nat) :
    engineTurns (k + 1) s = turnCost s + engineTurns k t := by
  rw [engineTurns, h, turnCost]

/-- Before each of the first `k` steps of a run the engine is busy, and the step is neither a reset nor an ABORT. -/
def RunsFreely (k : Nat) (s : State) : Prop :=
  ∀ j u, j < k → Host.Core.run core j s = .next u → u.busy = true ∧ nextTurn u ≠ .reset ∧ ¬ abortsNext u

theorem RunsFreely.zero (s : State) : RunsFreely 0 s := fun _ _ hj => absurd hj (Nat.not_lt_zero _)

theorem RunsFreely.succ {k : Nat} {s t : State} (hstep : step s = .next t) (hb : s.busy = true)
    (hreset : nextTurn s ≠ .reset) (habort : ¬ abortsNext s) (h : RunsFreely k t) : RunsFreely (k + 1) s := by
  intro j u hj hrun
  cases j with
  | zero =>
    cases hrun
    exact ⟨hb, hreset, habort⟩
  | succ j => exact h j u (Nat.lt_of_succ_lt_succ hj) (run_succ j s t hstep ▸ hrun)

theorem done_or_error_of_not_busy {s : State} (hb : s.busy = false) (hidle : s.PHASE ≠ .idle) :
    s.PHASE = .done ∨ s.PHASE = .error :=
  ((busy_eq_false_iff_notBusy s).1 hb).resolve_left hidle

/-- Each step takes an engine turn of those left, or brings the engine's next turn nearer. -/
theorem Positioned.exists_run {s : State} (h : Positioned s) (hidle : s.PHASE ≠ .idle) :
    ∃ k t, Host.Core.run core k s = .next t ∧ RunsFreely k s ∧
      (((t.PHASE = .done ∨ t.PHASE = .error) ∧ engineTurns k s = stepsLeft s) ∨ nextTurn t = .reset ∨ abortsNext t) := by
  by_cases hb : s.busy = true
  case neg =>
    have hb : s.busy = false := Bool.eq_false_iff.2 hb
    exact ⟨0, s, rfl, RunsFreely.zero s, .inl ⟨done_or_error_of_not_busy hb hidle, (stepsLeft_idle hb).symm⟩⟩
  by_cases hend : nextTurn s = .reset ∨ abortsNext s
  · exact ⟨0, s, rfl, RunsFreely.zero s, .inr hend⟩
  obtain ⟨hreset, habort⟩ := not_or.1 hend
  obtain ⟨u, hu, ha⟩ := h.step_advances hb hreset habort
  have hcount : stepsLeft u + turnCost s = stepsLeft s := ha.count
  have hnearer : stepsLeft u < stepsLeft s ∨ stepsLeft u = stepsLeft s ∧ untilEngine u < untilEngine s := by
    by_cases hn : nextTurn s = .engine
    · have hcost := turnCost_of_engine hn
      omega
    · have hcost := turnCost_of_ne_engine hn
      have := untilEngine_step hu hn
      omega
  obtain ⟨k, t, hrun, hfree, ht⟩ := ha.positioned.exists_run ha.phase
  refine ⟨k + 1, t, (run_succ k s u hu).trans hrun, hfree.succ hu hb hreset habort, ?_⟩
  rw [engineTurns_succ hu]
  exact ht.imp_left fun ⟨hphase, hturns⟩ => ⟨hphase, by omega⟩
termination_by (stepsLeft s, untilEngine s)
decreasing_by exact Prod.lex_def.2 hnearer

/-- Settles O37: the count of `PRE` and of each engine step, and the two inductions on the turns to come. -/
theorem engineStepsCountDown : Obligations.EngineStepsCountDown := by
  unfold Obligations.EngineStepsCountDown
  refine ⟨fun s => stepsLeft_pre, fun s t hi hb ht => ?_, fun s _ => stepsLeft_eq_zero_iff s,
    fun s _ => exists_run_nextTurn_engine s, fun s hi hb => hi.positioned.exists_run fun hp => ?_⟩
  · obtain ⟨u, hu, ha⟩ := hi.positioned.engineTurn_advances hb
    rw [ht] at hu
    cases hu
    exact ha.count
  · rw [State.busy, hp] at hb
    cases hb

/-! ### The end of a computation that passes its checks (R259) -/

/-- A computation whose message passes the checks of R185. -/
structure Underway (s : State) : Prop where
  positioned : Positioned s
  computes : Computes s
  fits : 8 * s.MSG_LEN.toNat < 2 ^ s.VAR.Lf
  inBuffer : s.MSG_LEN.toNat ≤ Config.MSG_CAP

theorem Underway.turnTaken {s : State} (h : Underway s) : Underway (takeTurn s) :=
  { h with positioned := h.positioned.turnTaken }

/-- Its `DONE`: the digest of the message the state holds. -/
structure Finished (t : State) : Prop where
  phase : t.PHASE = .done
  done : t.DONE = true
  hash : t.H = hashFinal t.VAR (messageLength t) (msgByte t)
  digest : t.DIGEST = digestFile t.VAR t.H
  block : t.BLK = t.NBLK

theorem Advances.underway {n : Nat} {s t : State} (ha : Advances n s t) (h : Underway s) : Underway t where
  positioned := ha.positioned
  computes := ha.computes h.computes
  fits := by rw [ha.message.1, ha.message.2.1]; exact h.fits
  inBuffer := by rw [ha.message.2.1]; exact h.inBuffer

/-- The last engine step of a computation that passes its checks is ASM. -/
theorem Underway.phase_eq_asm {s : State} (h : Underway s) (hlast : stepsLeft s = 1) : s.PHASE = .asm := by
  have hb : s.busy = true := busy_of_stepsLeft_pos (by omega)
  rcases (busy_iff_inBusyPhase s).1 hb with hp | hp | hp | hp
  · have hl := h.fits
    have hc := h.inBuffer
    rw [stepsLeft_pre hp, if_neg (by omega)] at hlast
    omega
  · have hlt := h.positioned.blockLt (.inl hp)
    have hpos : 0 < (s.NBLK.toNat - s.BLK.toNat) * (s.VAR.R + 2) :=
      Nat.mul_pos (Nat.sub_pos_of_lt hlt) (Nat.succ_pos _)
    rw [stepsLeft_sched hp] at hlast
    omega
  · rw [stepsLeft_comp hp] at hlast
    omega
  · exact hp

theorem Underway.finished_stepAsm {s : State} (h : Underway s) (hp : s.PHASE = .asm) : Finished (stepAsm s) where
  phase := rfl
  done := rfl
  hash := (computes_asm_iff hp).1 h.computes
  digest := rfl
  block := h.positioned.blockEq hp

/-- Over any turns before the last engine turn of those left, each step advances the computation, and the last one is ASM. -/
theorem Underway.exists_run_finished {ts rest : List Turn} {s : State} (h : Underway s)
    (hturns : s.turns = ts ++ .engine :: rest) (hreset : .reset ∉ ts) (hcount : ts.count .engine + 1 = stepsLeft s)
    (habort : ∀ j u, j < ts.length → Host.Core.run core j s = .next u → ¬ abortsNext u) :
    ∃ t, Host.Core.run core (ts.length + 1) s = .next t ∧ Finished t ∧ SameMessage s t ∧ t.turns = rest := by
  induction ts generalizing s with
  | nil =>
    have hp := h.phase_eq_asm hcount.symm
    have hstep := (step_engine s (nextTurn_cons s _ _ hturns)).trans (eng_asm (takeTurn s) hp)
    exact ⟨_, run_one hstep, h.turnTaken.finished_stepAsm hp, ⟨rfl, rfl, rfl⟩, congrArg List.tail hturns⟩
  | cons turn ts ih =>
    have hnext : nextTurn s = turn := nextTurn_cons s _ _ hturns
    have hb : s.busy = true := busy_of_stepsLeft_pos (by omega)
    have hne : nextTurn s ≠ .reset := by
      rw [hnext]
      exact fun he => hreset (he ▸ List.mem_cons_self)
    obtain ⟨u, hu, ha⟩ := h.positioned.step_advances hb hne (habort 0 s (Nat.succ_pos _) rfl)
    have huturns : u.turns = ts ++ .engine :: rest := by
      obtain ⟨-, e, -⟩ := step_keeps s u hu
      rw [e, takeTurn_turns, hturns]
      rfl
    have hucount : ts.count .engine + 1 = stepsLeft u := by
      rw [count_engine_turns_cons hnext] at hcount
      have := ha.count
      omega
    obtain ⟨t, hrun, hfin, hmessage, hrest⟩ := ih (ha.underway h) huturns (fun hm => hreset (List.mem_cons_of_mem _ hm))
      hucount fun j v hj hv => habort (j + 1) v (Nat.succ_lt_succ hj) ((run_succ j s u hu).trans hv)
    exact ⟨t, (run_succ _ s u hu).trans hrun, hfin, ha.message.trans hmessage, hrest⟩

/-- Settles O39: `PRE` is a position that every state holds, and the run from it ends in the digest of its message. -/
theorem everyInterleavingGivesTheDigest : Obligations.EveryInterleavingGivesTheDigest := by
  unfold Obligations.EveryInterleavingGivesTheDigest
  intro s ts rest hp hl hc hturns hreset hcount habort
  have hcounting : s.PHASE.counting = false := by rw [hp]; rfl
  have hleft := stepsLeft_pre hp
  rw [if_neg (by omega), ← hcount] at hleft
  obtain ⟨t, hrun, hfin, ⟨hvar, hlen, hbyte⟩, hrest⟩ := Underway.exists_run_finished
    ⟨positioned_of_not_counting hcounting, computes_idle s hcounting, hl, hc⟩ hturns hreset hleft.symm habort
  have hH := hfin.hash
  have hD := hfin.digest
  simp only [messageLength, hvar, hlen, hbyte] at hH
  rw [hH, hvar] at hD
  exact ⟨t, hrun, hfin.phase, hfin.done, hH, hD, hfin.block, hvar, hlen, congrFun hbyte, hrest⟩

end Sys2Proof.Machine
end

section
/-! The engine's exceptions (60_exceptions.md): runs of a conforming engine are safe (R274), a rejection is kept (R276), and
the interrupt output is a level of the flags (R280, R281). -/

open Sys2Proof.Claims

namespace Sys2Proof.Machine

/-! ### Runs are safe (R274, 46_variant_config.md R256) -/

/-- The one position with a fault has `J` above the round count, which the invariant shuts out. -/
theorem Inv.engineTurn_next {s : State} (h : Inv s) : ∃ t, engineTurn s = .next t := by
  rcases eng_cases s with ⟨-, e⟩ | ⟨-, e⟩ | ⟨-, e⟩ | ⟨-, -, e⟩ | ⟨-, -, e⟩ | ⟨-, hj, -⟩ | ⟨-, e⟩
  case inr.inr.inr.inr.inr.inl => exact absurd h.roundLe hj.not_ge
  all_goals exact ⟨_, e⟩

theorem Inv.step_next {s : State} (h : Inv s) : ∃ t, step s = .next t := by
  by_cases hn : nextTurn s = .engine
  · exact step_engine s hn ▸ h.takeTurn.engineTurn_next
  · exact step_next_of_ne_engine hn

/-- Settles O56, by induction on the number of steps: the invariant gives a next state, and the next state keeps it. -/
theorem runsAreSafe : Obligations.RunsAreSafe := by
  unfold Obligations.RunsAreSafe
  intro k
  induction k with
  | zero => exact fun s _ => ⟨s, rfl⟩
  | succ k ih =>
    intro s h
    obtain ⟨u, hu⟩ := h.step_next
    obtain ⟨t, ht⟩ := ih u (step_inv h hu)
    exact ⟨t, (run_succ k s u hu).trans ht⟩

/-! ### Rejections (R276) -/

theorem reject_of_REJ {s : State} (h : s.REJ = true) (cause : Word32) (off : Nat) (data : Word32) :
    reject cause off data s = s := by
  cases s
  cases h
  rfl

/-- Settles O12: `rejected` is R276's own case split on `REJ`, and `REJ` stands after a rejection. -/
theorem firstRejectionIsKept : Obligations.FirstRejectionIsKept := by
  unfold Obligations.FirstRejectionIsKept
  exact fun cause off data s => ⟨reject_eq_rejected cause off data s,
    fun cause' off' data' => reject_of_REJ (reject_REJ cause off data s) cause' off' data'⟩

/-! ### The interrupt output (R280, R281) -/

theorem irq_iff (s : State) : irq s = true ↔
    (s.DONE = true ∧ s.IRQ_EN.getLsbD 0 = true) ∨ (s.ERR = true ∧ s.IRQ_EN.getLsbD 1 = true) ∨
      (s.REJ = true ∧ s.IRQ_EN.getLsbD 2 = true) := by
  simp only [irq, State.doneIe, State.errIe, State.rejIe, Bool.or_eq_true, Bool.and_eq_true, or_assoc]

theorem irq_performAbort (s : State) : irq (performAbort s) = false := rfl

theorem irq_performClear (s : State) : irq (performClear s) = false := rfl

theorem irq_hashed (v : Variant) (s : State) : irq (hashed v s) = (s.REJ && s.IRQ_EN.getLsbD 2) := rfl

theorem irq_setIrqEn_iff (data : Word32) (s : State) : irq (setIrqEn data s) = true ↔
    (s.DONE = true ∧ data.getLsbD 0 = true) ∨ (s.ERR = true ∧ data.getLsbD 1 = true) ∨
      (s.REJ = true ∧ data.getLsbD 2 = true) := by
  simp [irq_iff]

/-- Settles O49: the state each command and the write answer, and the level of `irq` in it. -/
theorem interruptIsALevelOfTheFlags : Obligations.InterruptIsALevelOfTheFlags := by
  unfold Obligations.InterruptIsALevelOfTheFlags
  refine ⟨irq_iff, fun s t h => ?abort, fun s t hn h => ?clear, fun i s t hi hn h => ?hash, fun data s t h => ?irqEn⟩
  case abort =>
    cases (exec_of_legal rfl).symm.trans h
    exact irq_performAbort s
  case clear =>
    obtain ⟨hexec, -⟩ := exec_of_legal_eq_not_busy (i := .clear) (fun _ => rfl) s
    cases (hexec hn).symm.trans h
    exact irq_performClear s
  case hash =>
    obtain ⟨v, hv⟩ := (exists_hashVariant_iff i).2 hi
    obtain rfl := exec_hash_next hv hn h
    exact irq_hashed v s
  case irqEn =>
    cases (hostWrite_irqEn data s).symm.trans h
    exact irq_setIrqEn_iff data s

end Sys2Proof.Machine
end

section
/-! The engines of a platform (60_exceptions.md R292): a step of one changes no other and moves no base, and an access reaches
the one engine whose window holds its address (20_memory.md R89, R102). -/

namespace Sys2Proof.Machine

/-! ### A step of one engine (R292) -/

/-- What a platform's step can do: nothing where there is no engine `k`, else that engine's step in its place. -/
theorem platformStep_next {k : Nat} {p q : Platform} (h : platformStep k p = .next q) :
    (p[k]? = none ∧ q = p) ∨ ∃ x t, p[k]? = some x ∧ step x = .next t ∧ q = p.set k t := by
  unfold platformStep at h
  cases hk : p[k]? with
  | none =>
    rw [hk] at h
    cases h
    exact .inl ⟨rfl, rfl⟩
  | some x =>
    cases hx : step x with
    | next t =>
      simp only [hk, hx] at h
      cases h
      exact .inr ⟨x, t, rfl, hx, rfl⟩
    | fault r => simp [hk, hx] at h
    | refused r => simp [hk, hx] at h

theorem platformStep_getElem?_of_ne {k j : Nat} {p q : Platform} (h : platformStep k p = .next q) (hj : j ≠ k) :
    q[j]? = p[j]? := by
  obtain ⟨-, rfl⟩ | ⟨x, t, -, -, rfl⟩ := platformStep_next h
  · rfl
  · exact List.getElem?_set_ne hj.symm

theorem platformStep_bases {k : Nat} {p q : Platform} (h : platformStep k p = .next q) :
    q.map State.BASE = p.map State.BASE := by
  obtain ⟨-, rfl⟩ | ⟨x, t, hx, hstep, rfl⟩ := platformStep_next h
  · rfl
  · obtain ⟨hk, rfl⟩ := List.getElem?_eq_some_iff.1 hx
    obtain ⟨hbase, -⟩ := step_keeps _ t hstep
    rw [List.map_set, hbase, ← List.getElem_map State.BASE (h := by simpa using hk), List.set_getElem_self]

/-- Whether a platform is well-formed is read from its bases alone. -/
theorem platformWf_iff_bases (p : Platform) : platformWf p ↔
    p.map State.BASE ≠ [] ∧ (∀ b ∈ p.map State.BASE, alignedBase b) ∧ (p.map State.BASE).Pairwise windowsDisjoint := by
  rw [platformWf, Ne, Ne, List.map_eq_nil_iff, List.forall_mem_map, List.pairwise_map]

theorem platformWf_congr {p q : Platform} (h : q.map State.BASE = p.map State.BASE) (hp : platformWf p) :
    platformWf q := by
  rw [platformWf_iff_bases] at hp ⊢
  rwa [h]

/-! ### An access reaches one engine (20_memory.md R102, R89) -/

/-- An address in the window of engine `k` is in no window before it, the windows being disjoint. -/
theorem routeFrom_of_getElem? {p : Platform} (hp : p.Pairwise fun x y => windowsDisjoint x.BASE y.BASE) {k : Nat}
    {x : State} (hx : p[k]? = some x) {off : Nat} (hoff : off < windowSize) (n : Nat) :
    routeFrom n (x.BASE + off) p = some (n + k, off) := by
  induction p generalizing k n with
  | nil => cases hx
  | cons y p ih =>
    obtain ⟨hy, hp⟩ := List.pairwise_cons.1 hp
    cases k with
    | zero =>
      cases hx
      rw [routeFrom, if_pos ⟨Nat.le_add_right _ _, Nat.add_lt_add_left hoff _⟩, Nat.add_sub_cancel_left, Nat.add_zero]
    | succ k =>
      rw [List.getElem?_cons_succ] at hx
      have hdisjoint : windowsDisjoint y.BASE x.BASE := hy x (List.mem_of_getElem? hx)
      unfold windowsDisjoint at hdisjoint
      rw [routeFrom, if_neg (by omega), ih hp hx, Nat.add_right_comm, Nat.add_assoc]

theorem route_of_getElem? {p : Platform} (hp : platformWf p) {k : Nat} {x : State} (hx : p[k]? = some x) {off : Nat}
    (hoff : off < windowSize) : route (x.BASE + off) p = some (k, off) := by
  obtain ⟨-, -, hdisjoint⟩ := hp
  rw [route, routeFrom_of_getElem? hdisjoint hx hoff, Nat.zero_add]

theorem issue_of_route {addr k off : Nat} {p : Platform} (h : route addr p = some (k, off)) (kind : AccessKind)
    (size : Nat) : issue kind addr size p =
      p.modify k fun x => setHost (x.host ++ [.access { kind := kind, off := off, size := size }]) x := by
  rw [issue, h]

/-- Settles O60: the step and the access each change the one place of the platform's list, and no step moves a base. -/
theorem instancesShareNothing : Obligations.InstancesShareNothing := by
  unfold Obligations.InstancesShareNothing
  refine ⟨fun p q k j h hj => platformStep_getElem?_of_ne h hj,
    fun p q k h => ⟨platformStep_bases h, platformWf_congr (platformStep_bases h)⟩,
    fun p k x off size kind hp hx hoff => ?access, fun bases k base h => ?reset⟩
  case access =>
    have hroute := route_of_getElem? hp hx hoff
    rw [issue_of_route hroute]
    refine ⟨hroute, ?_, fun j hj => List.getElem?_modify_ne _ _ hj.symm⟩
    rw [List.getElem?_modify_eq, hx]
    rfl
  case reset => rw [platformReset, List.getElem?_map, h, Option.map_some]

end Sys2Proof.Machine
end

section
/-! Reset (70_reset_and_hazards.md R300, R301): the reset values, as registers and through the port, the one turn that
restores them, and that the invariant starts there. -/

namespace Sys2Proof.Machine

/-! ### The reset values -/

/-- No outcome and no rejection is recorded, so no cause of the interrupt line is there to be enabled (R280, R301). -/
theorem irq_reset : irq State.reset = false := rfl

theorem statusWord_reset : statusWord State.reset = 0 := by decide

/-- Settles O52: the registers' reset values stand in `State.reset`, and the two that are computed from them are `irq_reset`
and `statusWord_reset`. -/
theorem resetValues : Obligations.ResetValues := by
  unfold Obligations.ResetValues
  exact ⟨rfl, rfl, rfl, rfl, rfl, rfl, rfl, rfl, rfl, rfl, rfl, rfl, rfl, rfl, rfl, rfl, rfl, rfl, rfl, irq_reset,
    statusWord_reset⟩

/-! ### The reset turn -/

/-- Settles O53: the reset input's turn is the next one, taking it uses up that turn alone, and the reset event on the state
left is the record of the statement. -/
theorem resetTurnRestoresResetValues : Obligations.ResetTurnRestoresResetValues := by
  unfold Obligations.ResetTurnRestoresResetValues
  intro s rest h
  rw [step_reset s (nextTurn_cons s .reset rest h), takeTurn_cons s .reset rest h]
  rfl

/-! ### The invariant's start -/

/-- Settles O54: the reset state meets the invariant field by field, and in phase `IDLE` the registers are held to no
function. -/
theorem resetMeetsTheInvariant : Obligations.ResetMeetsTheInvariant :=
  ⟨reset_inv, computes_idle State.reset rfl⟩

end Sys2Proof.Machine
end
